-- ==== Sys2Proof/Word.lean ====
section
/-! DEFINITION. The word types of the AML Frame Codec Block (`spec/00_scope.md` R7: every quantity
is unsigned). -/

namespace Sys2Proof

/-- A byte (R7). -/
abbrev Byte := BitVec 8

/-- A 16-bit field: LEN, SEQ, TIMEOUT, PLEN (`30_encoding.md` R91, R100, R101). -/
abbrev Half := BitVec 16

/-- A CSR or counter value (`10_state.md` R21, R32). -/
abbrev Word := BitVec 32

/-- A fixed sequence of 8 bytes: the cipher's block, its counter block, and the key
(`40_cipher.md` R130: `BLK = 8`, `KEY_BYTES = 8`). `b0` is the first byte. -/
structure Block where
  b0 : Byte
  b1 : Byte
  b2 : Byte
  b3 : Byte
  b4 : Byte
  b5 : Byte
  b6 : Byte
  b7 : Byte
deriving DecidableEq, Repr, Inhabited

end Sys2Proof
end

