-- ==== Sys2Proof/Config.lean ====
section
/-! DEFINITION. What an implementation fixes (`spec/00_scope.md` R5) and the free values. -/

namespace Sys2Proof

/-- The size parameters of R5. They are a field of `State` that nothing writes, so that every
statement about all states holds for every choice of them (notes/assumptions/1.md). -/
structure Params where
  /-- `MAX_PAYLOAD`, 0..65535. -/
  maxPayload : Nat
  /-- `QDEPTH`, 1..15. -/
  qdepth : Nat
  /-- `TXQ_BYTES`, at least `HDR_W + MAX_PAYLOAD + 2`. -/
  txqBytes : Nat
deriving DecidableEq, Repr

/-- `HDR_W = 5`, fixed by R5. -/
abbrev hdrW : Nat := 5

/-- The default parameter values of R5. -/
def Params.default : Params := { maxPayload := 1024, qdepth := 4, txqBytes := 1031 }

/-- The ranges R5 allows. -/
abbrev Params.Legal (p : Params) : Prop :=
  p.maxPayload ≤ 65535 ∧ 1 ≤ p.qdepth ∧ p.qdepth ≤ 15 ∧ hdrW + p.maxPayload + 2 ≤ p.txqBytes

/-- A keystream function: any total deterministic function of a key and a counter block
(`40_cipher.md` R130). -/
abbrev KeyStream := Block → Block → Block

/-- `KS`, the open parameter of R5 and R130: a free value, about which nothing can be proved but
that it is a function (notes/assumptions/2.md). It is not the stand-in KS_REF, which R138 keeps out of
a model's trusted definitions. -/
opaque Config.ks : KeyStream

/-- Whether the checksum of an illegal `CSUM_ALG` (2 or 3) is two bytes wide. R152 gives no such
algorithm and no enabled block has one (`10_state.md` R40(h)): a free value
(notes/assumptions/3.md). -/
opaque Config.reservedCsumWide : BitVec 2 → Bool

/-- The checksum of an illegal `CSUM_ALG` (2 or 3): a free value (notes/assumptions/3.md). -/
opaque Config.reservedCsum : BitVec 2 → List Byte → Half

/-- `TIMER` after a decrement from 0, which R163 says is never performed (it could be only in a
state that violates R40(c)): a free value (notes/assumptions/4.md). -/
opaque Config.timerBelowZero : Half

end Sys2Proof
end

