-- ==== Sys2Proof/Syntax.lean ====
section
/-! DEFINITION. The operations of the block (`spec/opcode_table.json`, one constructor per row) and
the raw stimuli at its ports (`spec/30_encoding.md` R90), before decoding. -/

namespace Sys2Proof

/-- The direction of a frame: `dir = 0` for frames the block sends, `dir = 1` for frames it
receives (`40_cipher.md` R137). -/
inductive Dir where
  /-- Host to panel, `dir = 0`. -/
  | toPanel
  /-- Panel to host, `dir = 1`. -/
  | fromPanel
deriving DecidableEq, Repr

/-- One constructor per row of `spec/opcode_table.json`. -/
inductive Instr where
  /-- NOP (R221). -/
  | nop
  /-- CSR_READ of register number `n` (R222). -/
  | csrRead (n : Byte)
  /-- CSR_WRITE of `v` to register number `n` (R223). -/
  | csrWrite (n : Byte) (v : Word)
  /-- LINK_UP (R226). -/
  | linkUp
  /-- LINK_DOWN (R227). -/
  | linkDown
  /-- CTL_RESERVED: a `ctl_cmd` that matches no other row (R229), with its three fields. -/
  | ctlReserved (op : BitVec 4) (rsv : BitVec 4) (csrn : Byte)
  /-- SEND: the bytes of one descriptor as delimited by `req_last` (R180), well-formed or not. -/
  | send (desc : List Byte)
  /-- CPL_OK: a record with status OK crosses the CPL port (R101, R102, R186). -/
  | cplOk (tag : BitVec 4) (ty : Byte) (seq : Half) (payload : List Byte)
  /-- CPL_TIMEOUT (R188). -/
  | cplTimeout (tag : BitVec 4) (ty : Byte) (seq : Half) (payload : List Byte)
  /-- CPL_CONNECTION_LOST (R190). -/
  | cplConnectionLost (tag : BitVec 4) (ty : Byte) (seq : Half) (payload : List Byte)
  /-- CPL_NOT_CONNECTED (R180). -/
  | cplNotConnected (tag : BitVec 4) (ty : Byte) (seq : Half) (payload : List Byte)
  /-- CPL_NOT_CONFIGURED (R180). -/
  | cplNotConfigured (tag : BitVec 4) (ty : Byte) (seq : Half) (payload : List Byte)
  /-- CPL_BAD_REQUEST (R181). -/
  | cplBadRequest (tag : BitVec 4) (ty : Byte) (seq : Half) (payload : List Byte)
  /-- CPL_UNSOLICITED: TAG is 15 (R186). -/
  | cplUnsolicited (ty : Byte) (seq : Half) (payload : List Byte)
  /-- FRAME: one whole wire frame (R91) on the stream of direction `dir`: its TYPE and SEQ, its
  payload bytes as they stand on the wire, and its checksum bytes. LEN is the payload's length. -/
  | frame (dir : Dir) (ty : Byte) (seq : Half) (body : List Byte) (csum : List Byte)
  /-- RX_BYTE (R155). -/
  | rxByte (b : Byte)
  /-- TX_POP (R161). -/
  | txPop
  /-- TICK (R187). -/
  | tick
  /-- RESET (R280). -/
  | reset
deriving DecidableEq, Repr

/-- Bytes on the REQ port, one or several, none but perhaps the final one marked by `req_last`
(R100). -/
structure ReqItem where
  bytes : List Byte
  /-- `req_last` marks the final byte. -/
  last : Bool
deriving DecidableEq, Repr

/-- One transaction at a port, as the wires carry it (R90, R98 to R103). -/
inductive PortEvent where
  /-- `ctl_cmd[15:0]` with `ctl_wdata[31:0]`, presented with `ctl_valid` (R98). -/
  | ctl (cmd : Half) (wdata : Word)
  /-- Bytes presented on the REQ port; a whole descriptor if the final one is marked by `req_last`
  and nothing was accepted before (R100). -/
  | req (item : ReqItem)
  /-- The point of a clock cycle at which the REQ port is sampled (`20_memory.md` R77, 5.), nothing
  new being presented there: bytes that wait for `req_ready` are accepted now if it is high. -/
  | reqSample
  /-- The bytes of one record on the CPL port, the last one marked by `cpl_last` (R101). -/
  | cpl (bytes : List Byte)
  /-- A clock cycle of the CPL port, in which it offers the next byte of a record if there is one,
  and whether the host takes what is offered (R101, `70_reset_and_hazards.md` R289). -/
  | cplByte (taken : Bool)
  /-- The bytes of one frame, one after the other, on a wire stream (R91). -/
  | wire (dir : Dir) (bytes : List Byte)
  /-- The RX lanes: bit 8 is `rx_valid`, bits 7:0 are `rx_data` (R103). -/
  | rx (lanes : BitVec 9)
  /-- `tx_ready` (R103). -/
  | txReady (level : BitVec 1)
  /-- `tick` (R103). -/
  | tick (level : BitVec 1)
  /-- `rst` (R103, R280). -/
  | rst (level : BitVec 1)
deriving DecidableEq, Repr

/-- Why the wires of a port carry no operation. -/
inductive DecodeError where
  /-- A strobe wire is low: no operation is presented (R103). -/
  | strobeLow
  /-- Bytes of a descriptor before its last one: SEND takes effect with the last (R100). -/
  | descriptorUnfinished
  /-- Only the moment of a handshake, no bits that carry an operation. -/
  | noBits
  /-- Fewer than the 6 fixed bytes of a record (R101). -/
  | recordTooShort
  /-- A record with a reserved status code (R102). -/
  | recordStatusReserved (code : BitVec 4)
  /-- An UNSOLICITED record whose TAG is not 15 (R101). -/
  | unsolicitedTagNot15
  /-- A record whose length is not `6 + PLEN` (R105). -/
  | recordLengthMismatch
  /-- Fewer bytes than a header (R91). -/
  | frameTooShort
  /-- A frame whose length is neither `6 + LEN` nor `7 + LEN` (R97). -/
  | frameLengthMismatch
deriving DecidableEq, Repr

end Sys2Proof
end

