-- ==== Sys2Proof/WellFormed.lean ====
section
/-! DEFINITION. Which terms of `Instr` the encodings of `spec/30_encoding.md` can express. -/

namespace Sys2Proof

/-- The words of the CTL_RESERVED row: OP 5..15, or bits 11:8 not 0, or CSRN not 0 with OP 0, 3 or 4
(R98, R229). -/
def ctlWordReserved (op rsv : BitVec 4) (csrn : Byte) : Bool :=
  rsv != 0#4 || 5 ≤ op.toNat || ((op == 0#4 || op == 3#4 || op == 4#4) && csrn != 0#8)

/-- PLEN is a 16-bit field (R101). -/
def plenFits (payload : List Byte) : Bool := decide (payload.length < 65536)

/-- A record of a request that SEND accepted or refused for its state: its TAG is 0..14 (R100, R101). -/
def requestTag (tag : BitVec 4) : Bool := tag != 15#4

/-- `HDR_W` header bytes, LEN payload bytes and a checksum of 1 or 2 bytes (R91, R152). -/
def frameShape (body csum : List Byte) : Bool :=
  decide (body.length < 65536) && (csum.length == 1 || csum.length == 2)

/-- The instruction is one the encodings can express and the spec describes. -/
def Instr.wf : Instr → Bool
  | .nop => true
  | .csrRead _ => true
  | .csrWrite _ _ => true
  | .linkUp => true
  | .linkDown => true
  | .ctlReserved op rsv csrn => ctlWordReserved op rsv csrn
  -- R181: a zero-length descriptor cannot occur on the port.
  | .send desc => !desc.isEmpty
  | .cplOk tag _ _ payload => requestTag tag && plenFits payload
  -- R101: PLEN is 0 unless the status is OK or UNSOLICITED.
  | .cplTimeout tag _ _ payload => requestTag tag && payload.isEmpty
  | .cplConnectionLost tag _ _ payload => requestTag tag && payload.isEmpty
  -- R101: SEQ is 0 for a request that was never sent.
  | .cplNotConnected tag _ seq payload => requestTag tag && seq == 0#16 && payload.isEmpty
  | .cplNotConfigured tag _ seq payload => requestTag tag && seq == 0#16 && payload.isEmpty
  -- R181: the TAG is whatever the descriptor's first byte holds, even 15.
  | .cplBadRequest _ _ seq payload => seq == 0#16 && payload.isEmpty
  | .cplUnsolicited _ _ payload => plenFits payload
  | .frame _ _ _ body csum => frameShape body csum
  | .rxByte _ => true
  | .txPop => true
  | .tick => true
  | .reset => true

end Sys2Proof
end

