-- ==== Sys2Proof/Decode.lean ====
section
/-! DEFINITION. From the wires of a port to an operation and back (`spec/30_encoding.md`), and the
numbering of `spec/opcode_table.json`. -/

namespace Sys2Proof

/-! ### Byte order (R7, R61, R110) -/

/-- `hi8(v)` of R7. -/
def hi8 (v : Half) : Byte := v.extractLsb' 8 8

/-- `lo8(v)` of R7. -/
def lo8 (v : Half) : Byte := v.extractLsb' 0 8

/-- `hi * 256 + lo`: every multi-byte field is big-endian (R61, R110). -/
def be16 (hi lo : Byte) : Half := hi ++ lo

/-! ### CTL words (R98, R220) -/

/-- The operation of a 16-bit `ctl_cmd`; total, every word that matches no other row being
CTL_RESERVED (R98, R220, R229). -/
def decodeCtl (cmd : Half) (wdata : Word) : Instr :=
  let op := cmd.extractLsb' 12 4
  let rsv := cmd.extractLsb' 8 4
  let n := cmd.extractLsb' 0 8
  if rsv ≠ 0#4 then .ctlReserved op rsv n
  else if op = 0#4 then (if n = 0#8 then .nop else .ctlReserved op rsv n)
  else if op = 1#4 then .csrRead n
  else if op = 2#4 then .csrWrite n wdata
  else if op = 3#4 then (if n = 0#8 then .linkUp else .ctlReserved op rsv n)
  else if op = 4#4 then (if n = 0#8 then .linkDown else .ctlReserved op rsv n)
  else .ctlReserved op rsv n

/-- `ctl_cmd` from its three fields (R98). -/
def ctlWord (op rsv : BitVec 4) (n : Byte) : Half := op ++ rsv ++ n

/-! ### CPL records (R101, R102) -/

/-- The record row a status code selects (R102). -/
def decodeRecordFields (status tag : BitVec 4) (ty : Byte) (seq : Half) (payload : List Byte) :
    Except DecodeError Instr :=
  if status = 0x0#4 then .ok (.cplOk tag ty seq payload)
  else if status = 0x1#4 then .ok (.cplTimeout tag ty seq payload)
  else if status = 0x2#4 then .ok (.cplConnectionLost tag ty seq payload)
  else if status = 0x3#4 then .ok (.cplNotConnected tag ty seq payload)
  else if status = 0x4#4 then .ok (.cplNotConfigured tag ty seq payload)
  else if status = 0x5#4 then .ok (.cplBadRequest tag ty seq payload)
  else if status = 0x8#4 then
    (if tag = 15#4 then .ok (.cplUnsolicited ty seq payload) else .error .unsolicitedTagNot15)
  else .error (.recordStatusReserved status)

/-- The record whose bytes cross the CPL port (R101, R105). -/
def decodeRecord : List Byte → Except DecodeError Instr
  | c :: ty :: s1 :: s0 :: p1 :: p0 :: payload =>
    if payload.length = (be16 p1 p0).toNat then
      decodeRecordFields (c.extractLsb' 4 4) (c.extractLsb' 0 4) ty (be16 s1 s0) payload
    else .error .recordLengthMismatch
  | _ => .error .recordTooShort

/-- The bytes of a record: `STATUS * 16 + TAG`, TYPE, SEQ, PLEN, payload (R101, R110). -/
def recordBytes (status tag : BitVec 4) (ty : Byte) (seq : Half) (payload : List Byte) :
    List Byte :=
  let plen := BitVec.ofNat 16 payload.length
  [status ++ tag, ty, hi8 seq, lo8 seq, hi8 plen, lo8 plen] ++ payload

/-! ### Wire frames (R91) -/

/-- The five header bytes of a frame with an `n`-byte payload (R91, R153). -/
def frameHeader (n : Nat) (ty : Byte) (seq : Half) : List Byte :=
  let len := BitVec.ofNat 16 n
  [hi8 len, lo8 len, ty, hi8 seq, lo8 seq]

/-- The bytes of a whole frame on the wire: header, payload as it stands on the wire, checksum (R91). -/
def frameBytes (ty : Byte) (seq : Half) (body csum : List Byte) : List Byte :=
  frameHeader body.length ty seq ++ body ++ csum

/-- The frame whose bytes cross a wire stream: five header bytes, LEN payload bytes, and a checksum
of one or two bytes (R91, R97, R105). -/
def decodeFrame (dir : Dir) : List Byte → Except DecodeError Instr
  | l1 :: l0 :: ty :: s1 :: s0 :: rest =>
    let n := (be16 l1 l0).toNat
    if rest.length = n + 1 ∨ rest.length = n + 2 then
      .ok (.frame dir ty (be16 s1 s0) (rest.take n) (rest.drop n))
    else .error .frameLengthMismatch
  | _ => .error .frameTooShort

/-! ### The decoder -/

/-- The operation the wires of a port carry; total, with a name for each refusal. -/
def decode : PortEvent → Except DecodeError Instr
  | .ctl cmd wdata => .ok (decodeCtl cmd wdata)
  -- R100: the descriptor is an operand whole; a form that breaks the layout is answered, not refused.
  | .req item => if item.last then .ok (.send item.bytes) else .error .descriptorUnfinished
  | .reqSample => .error .noBits
  | .cpl bytes => decodeRecord bytes
  | .cplByte _ => .error .noBits
  | .wire dir bytes => decodeFrame dir bytes
  | .rx lanes =>
    if lanes.getLsbD 8 then .ok (.rxByte (lanes.extractLsb' 0 8)) else .error .strobeLow
  | .txReady level => if level = 1#1 then .ok .txPop else .error .strobeLow
  | .tick level => if level = 1#1 then .ok .tick else .error .strobeLow
  | .rst level => if level = 1#1 then .ok .reset else .error .strobeLow

/-! ### The encoder -/

/-- The wires that carry an operation, from the same layouts (R98 to R103). `ctl_wdata` is ignored
by every CTL command but CSR_WRITE and is driven 0 there. -/
def encode : Instr → PortEvent
  | .nop => .ctl (ctlWord 0#4 0#4 0#8) 0#32
  | .csrRead n => .ctl (ctlWord 1#4 0#4 n) 0#32
  | .csrWrite n v => .ctl (ctlWord 2#4 0#4 n) v
  | .linkUp => .ctl (ctlWord 3#4 0#4 0#8) 0#32
  | .linkDown => .ctl (ctlWord 4#4 0#4 0#8) 0#32
  | .ctlReserved op rsv csrn => .ctl (ctlWord op rsv csrn) 0#32
  | .send desc => .req { bytes := desc, last := true }
  | .cplOk tag ty seq payload => .cpl (recordBytes 0x0#4 tag ty seq payload)
  | .cplTimeout tag ty seq payload => .cpl (recordBytes 0x1#4 tag ty seq payload)
  | .cplConnectionLost tag ty seq payload => .cpl (recordBytes 0x2#4 tag ty seq payload)
  | .cplNotConnected tag ty seq payload => .cpl (recordBytes 0x3#4 tag ty seq payload)
  | .cplNotConfigured tag ty seq payload => .cpl (recordBytes 0x4#4 tag ty seq payload)
  | .cplBadRequest tag ty seq payload => .cpl (recordBytes 0x5#4 tag ty seq payload)
  | .cplUnsolicited ty seq payload => .cpl (recordBytes 0x8#4 15#4 ty seq payload)
  | .frame dir ty seq body csum => .wire dir (frameBytes ty seq body csum)
  | .rxByte b => .rx (1#1 ++ b)
  | .txPop => .txReady 1#1
  | .tick => .tick 1#1
  | .reset => .rst 1#1

/-! ### The numbering of the opcode table -/

/-- The first `k` bytes of a table word: byte 0 is its bits 7:0, byte 1 its bits 15:8, and so on. -/
def tableBytes : Nat → Nat → List Byte
  | 0, _ => []
  | k + 1, w => BitVec.ofNat 8 w :: tableBytes k (w / 256)

/-- `k` bytes of zeros: the operand bytes a table word gives no bits. -/
def zeroBytes (k : Nat) : List Byte := List.replicate k 0#8

/-- The length field of a big-endian byte pair `i`, `i + 1` of a table word. -/
def tableLen (bs : List Byte) (i : Nat) : Nat := (be16 (bs.getD i 0#8) (bs.getD (i + 1) 0#8)).toNat

/-- The wires a table word of `nbits` bits stands for. The width selects the port: 16 bits are a
`ctl_cmd` (with `ctl_wdata` 0), 64 a descriptor, 48 a record, 40 a frame on the receive stream, 9
the RX lanes, 8 or 1 a strobe wire. The table writes the three one-bit strobes TX_POP, TICK and
RESET alike, so that width stands for the first of them (notes/assumptions/10.md). -/
def tableEvent (nbits w : Nat) : Option PortEvent :=
  if nbits = 16 then some (.ctl (BitVec.ofNat 16 w) 0#32)
  else if nbits = 64 then
    let bs := tableBytes 8 w
    some (.req { bytes := bs ++ zeroBytes (tableLen bs 6), last := true })
  else if nbits = 48 then
    let bs := tableBytes 6 w
    some (.cpl (bs ++ zeroBytes (tableLen bs 4)))
  else if nbits = 40 then
    let bs := tableBytes 5 w
    some (.wire .fromPanel (bs ++ zeroBytes (tableLen bs 0 + 1)))
  else if nbits = 9 then some (.rx (BitVec.ofNat 9 w))
  else if (nbits = 8 ∨ nbits = 1) ∧ w < 2 then some (.txReady (BitVec.ofNat 1 w))
  else none

/-- The instruction the decoder reads from a word of the opcode table. -/
def decodeTableWord (nbits w : Nat) : Option Instr :=
  match tableEvent nbits w with
  | none => none
  | some e =>
    match decode e with
    | .ok i => some i
    | .error _ => none

end Sys2Proof
end

