-- ==== Sys2Proof/Machine/State.lean ====
section
/-! DEFINITION. The state of the block (`spec/10_state.md` R20) and of the ports around it, as plain
data; the state after reset (R41); the reasons a step can stop. -/

namespace Sys2Proof.Machine

/-- `CST`, the correlator state, which is the Operation Lock (R34, `20_memory.md` R74). -/
inductive Cst where
  /-- No exchange is outstanding (encoded 0). -/
  | idle
  /-- The lock is held (encoded 1). -/
  | wait
deriving DecidableEq, Repr

/-- `OUT`, the outstanding-request register (R31). -/
structure OutReg where
  tag : BitVec 4
  ty : Byte
  expTy : Byte
  seq : Half
deriving DecidableEq, Repr

/-- A request descriptor as REQQ holds it (R35). -/
structure Descriptor where
  tag : BitVec 4
  ty : Byte
  expTy : Byte
  timeout : Half
  payload : List Byte
deriving DecidableEq, Repr

/-- A logical message: the triple (TYPE, SEQ, PAYLOAD) (`00_scope.md` glossary, R153). -/
structure Message where
  ty : Byte
  seq : Half
  payload : List Byte
deriving DecidableEq, Repr

/-- CPL status codes that are produced (`30_encoding.md` R102). -/
inductive CplStatus where
  | ok
  | timeout
  | connectionLost
  | notConnected
  | notConfigured
  | badRequest
  | unsolicited
deriving DecidableEq, Repr

/-- A completion record `CPL{status, tag, type, seq, payload}` (`30_encoding.md` R101). -/
structure CplRecord where
  status : CplStatus
  tag : BitVec 4
  ty : Byte
  seq : Half
  payload : List Byte
deriving DecidableEq, Repr

/-- CTL status codes that are produced (`30_encoding.md` R99). -/
inductive CtlStatus where
  | ok
  | badOp
  | badCsr
  | readOnly
  | locked
  | configError
  | notConfigured
  | badState
deriving DecidableEq, Repr

/-- A CTL response `(ctl_status, ctl_rdata)` (`30_encoding.md` R99). -/
structure CtlResponse where
  status : CtlStatus
  rdata : Word
deriving DecidableEq, Repr

/-- The defined control and status registers (R21). -/
inductive Csr where
  | ctrl
  | status
  | cfg
  | key0
  | key1
  | reqTimeout
  | toLimit
  | txSeq
  | timer
  | consecTo
  | out
  | cntTx
  | cntRxOk
  | cntCsumErr
  | cntMalformed
  | cntUnsol
  | cntTimeout
  | cntRxDiscard
  | levels
deriving DecidableEq, Repr

/-- The verdict of PARSE (`41_frame_codec.md` R154). -/
inductive Verdict where
  /-- `NeedMoreData`. -/
  | needMoreData
  /-- `Invalid(BAD_LENGTH, 1)`. -/
  | badLength
  /-- `Invalid(BAD_CHECKSUM, total)`. -/
  | badChecksum (total : Nat)
  /-- `Frame(m, total)`. -/
  | frame (m : Message) (total : Nat)
deriving DecidableEq, Repr

/-- The result of DECODE_DESC (`42_correlator.md` R181). -/
inductive DescVerdict where
  | good (d : Descriptor)
  | bad (tag : BitVec 4) (ty : Byte)
deriving DecidableEq, Repr

/-- The configuration registers (R20(a) but `EN`): the source's Connection Config. -/
structure ConnConfig where
  /-- CFG[3:0] (R24). -/
  keyLen : BitVec 4
  /-- CFG[5:4] (R24). -/
  gen : BitVec 2
  /-- CFG[7:6] (R24). -/
  matchMode : BitVec 2
  /-- CFG[9:8] (R24). -/
  csumAlg : BitVec 2
  /-- `KEY[0..7]` (R25). -/
  key : Block
  /-- `REQ_TIMEOUT` (R26). -/
  reqTimeout : Half
  /-- `TO_LIMIT` (R27). -/
  toLimit : Byte
deriving DecidableEq, Repr

/-- The seven event counters (R32). -/
structure Counters where
  tx : Word
  rxOk : Word
  csumErr : Word
  malformed : Word
  unsol : Word
  timeout : Word
  rxDiscard : Word
deriving DecidableEq, Repr

/-- The complete state of the FCB (R20: "Nothing else is state"). -/
structure Fcb where
  /-- `CTRL.EN` (R22). -/
  en : Bool
  /-- CFG, KEY, REQ_TIMEOUT, TO_LIMIT (R24 to R27). -/
  conf : ConnConfig
  /-- `STATUS.CFG_ERR` (R23). -/
  cfgErr : Bool
  /-- `STATUS.CFG_ERR_CAUSE` (R23, R108). -/
  cfgErrCause : BitVec 4
  /-- `STATUS.LINK` (R23). -/
  link : Bool
  /-- `STATUS.FORCE_RECONNECT` (R23), which is also the `force_reconnect` wire (R269). -/
  forceReconnect : Bool
  /-- `STATUS.SEQ_WRAP` (R23). -/
  seqWrap : Bool
  /-- `CST` (R34). -/
  cst : Cst
  /-- `OUT` (R31). -/
  out : OutReg
  /-- `TIMER` (R29). -/
  timer : Half
  /-- `CONSEC_TO` (R30). -/
  consecTo : Byte
  /-- `TX_SEQ` (R28). -/
  txSeq : Half
  /-- `REQQ`, head first (R35). -/
  reqq : List Descriptor
  /-- `TXQ`, head first (R36). -/
  txq : List Byte
  /-- `RXBUF`, offset 0 first (R37). -/
  rxbuf : List Byte
  /-- The seven counters (R32). -/
  cnt : Counters
deriving DecidableEq, Repr

/-- A byte on the CPL port: `cpl_data` with `cpl_last` (`30_encoding.md` R101). -/
structure CplLane where
  data : Byte
  last : Bool
deriving DecidableEq, Repr

/-- The ports and what stands outside them, no architectural state of the FCB (R38(c), R39;
`70_reset_and_hazards.md` R289; notes/assumptions/5.md, notes/assumptions/6.md). -/
structure Ports where
  /-- What the outside presents next, in order. -/
  inbox : List PortEvent
  /-- What the callers hold on the REQ port until `req_ready` is high, in order
  (`42_correlator.md` R194). -/
  reqWaiting : List ReqItem
  /-- The assembly buffer of the REQ port: the bytes of a descriptor accepted before its last one
  (R38(c)). -/
  reqPart : List Byte
  /-- The CTL responses so far, in order (R99). -/
  ctlTrace : List CtlResponse
  /-- The output trace of the CPL port so far, in order (`00_scope.md` R8, `20_memory.md` R71). -/
  cplTrace : List CplRecord
  /-- The output buffer of the CPL port: the records emitted and not yet streamed out whole
  (`70_reset_and_hazards.md` R289). -/
  cplOut : List CplRecord
  /-- How many bytes of the first record of `cplOut` have been offered. -/
  cplSent : Nat
  /-- The bytes of the CPL port the host has taken so far, in order; one it does not take in the cycle
  it is offered is lost (`70_reset_and_hazards.md` R289). -/
  cplStream : List CplLane
  /-- The bytes handed to the Transport Session so far, in order (`20_memory.md` R67). -/
  txTrace : List Byte
deriving DecidableEq, Repr

/-- The whole machine: the parameters of R5 (never written), the block, and its ports. -/
structure State where
  params : Params
  fcb : Fcb
  port : Ports
deriving DecidableEq, Repr

/-- Why a step stops with a fault: there is no reason, so no constructor. The block has "no fault
that stops it and no undefined behaviour: every input in every state has a defined result"
(`60_exceptions.md` R250). -/
inductive Fault where
deriving DecidableEq, Repr

/-- Why an instruction has no meaning. -/
inductive Refusal where
  /-- Raised by `exec` for an instruction whose meaning is not modelled. Safe; no arm raises it. -/
  | notModelled (mnemonic : String)
deriving DecidableEq, Repr

/-- Every configuration register at its reset value (R41). -/
def ConnConfig.reset : ConnConfig :=
  { keyLen := 0#4, gen := 0#2, matchMode := 0#2, csumAlg := 0#2
    key := { b0 := 0#8, b1 := 0#8, b2 := 0#8, b3 := 0#8, b4 := 0#8, b5 := 0#8, b6 := 0#8, b7 := 0#8 }
    reqTimeout := 0#16, toLimit := 0#8 }

/-- All seven counters 0 (R41). -/
def Counters.reset : Counters :=
  { tx := 0#32, rxOk := 0#32, csumErr := 0#32, malformed := 0#32, unsol := 0#32, timeout := 0#32
    rxDiscard := 0#32 }

/-- The state RESET puts the block in (R41, `70_reset_and_hazards.md` R281). -/
def Fcb.reset : Fcb :=
  { en := false, conf := ConnConfig.reset, cfgErr := false, cfgErrCause := 0#4, link := false
    forceReconnect := false, seqWrap := false, cst := .idle
    out := { tag := 0#4, ty := 0#8, expTy := 0#8, seq := 0#16 }
    timer := 0#16, consecTo := 0#8, txSeq := 0#16, reqq := [], txq := [], rxbuf := []
    cnt := Counters.reset }

/-- Nothing presented, nothing output. -/
def Ports.reset : Ports :=
  { inbox := [], reqWaiting := [], reqPart := [], ctlTrace := [], cplTrace := [], cplOut := []
    cplSent := 0, cplStream := [], txTrace := [] }

/-- The machine right after reset, with the default parameters of R5. -/
def State.reset : State :=
  { params := Params.default, fcb := Fcb.reset, port := Ports.reset }

end Sys2Proof.Machine
end

