-- ==== Sys2Proof/Machine/Cipher.lean ====
section
/-! DEFINITION. The cipher (`spec/40_cipher.md`): pure functions over an arbitrary keystream function
`ks`. -/

namespace Sys2Proof.Machine

/-- The direction byte of the counter block (R131, R137). -/
def dirByte : Dir → Byte
  | .toPanel => 0#8
  | .fromPanel => 1#8

/-- `CTRBLK(dir, seq, q)` (R131). -/
def ctrblk (dir : Dir) (seq q : Half) : Block :=
  { b0 := dirByte dir, b1 := 0#8, b2 := hi8 seq, b3 := lo8 seq
    b4 := 0#8, b5 := 0#8, b6 := hi8 q, b7 := lo8 q }

/-- Byte-wise exclusive or of two blocks (R7). -/
def blockXor (a b : Block) : Block :=
  { b0 := a.b0 ^^^ b.b0, b1 := a.b1 ^^^ b.b1, b2 := a.b2 ^^^ b.b2, b3 := a.b3 ^^^ b.b3
    b4 := a.b4 ^^^ b.b4, b5 := a.b5 ^^^ b.b5, b6 := a.b6 ^^^ b.b6, b7 := a.b7 ^^^ b.b7 }

/-- `ENC_BLOCK(key, cb, blk)` (R132). -/
def encBlock (ks : KeyStream) (key cb blk : Block) : Block := blockXor blk (ks key cb)

/-- `DEC_BLOCK(key, cb, blk)`, the same function (R133). -/
def decBlock (ks : KeyStream) (key cb blk : Block) : Block := blockXor blk (ks key cb)

/-- Byte `r` of a block, `r` taken modulo 8. -/
def blockByte (b : Block) (r : Nat) : Byte :=
  match r % 8 with
  | 0 => b.b0
  | 1 => b.b1
  | 2 => b.b2
  | 3 => b.b3
  | 4 => b.b4
  | 5 => b.b5
  | 6 => b.b6
  | _ => b.b7

/-- The eight bytes of a block, first to last. -/
def blockBytes (b : Block) : List Byte := [b.b0, b.b1, b.b2, b.b3, b.b4, b.b5, b.b6, b.b7]

/-- The keystream byte for payload index `i` (R134). -/
def keystreamByte (ks : KeyStream) (key : Block) (dir : Dir) (seq : Half) (i : Nat) : Byte :=
  blockByte (ks key (ctrblk dir seq (BitVec.ofNat 16 (i / 8)))) (i % 8)

/-- The loop of R134 from index `i` on. -/
def cryptFrom (ks : KeyStream) (key : Block) (dir : Dir) (seq : Half) : Nat → List Byte → List Byte
  | _, [] => []
  | i, b :: bs => (b ^^^ keystreamByte ks key dir seq i) :: cryptFrom ks key dir seq (i + 1) bs

/-- `CRYPT(key, dir, seq, data)` (R134). -/
def crypt (ks : KeyStream) (key : Block) (dir : Dir) (seq : Half) (data : List Byte) : List Byte :=
  cryptFrom ks key dir seq 0 data

/-- What stands on the wire for a payload, or the payload of what stands on the wire: CRYPT when
`KEY_LEN = 8`, the bytes themselves otherwise (R135). -/
def cryptPayload (ks : KeyStream) (c : ConnConfig) (dir : Dir) (seq : Half) (data : List Byte) :
    List Byte :=
  if c.keyLen = 8#4 then crypt ks c.key dir seq data else data

end Sys2Proof.Machine
end

