-- ==== Sys2Proof/Machine/Frame.lean ====
section
/-! DEFINITION. Checksums, serializer and deserializer (`spec/41_frame_codec.md` R150 to R154): pure
functions. -/

namespace Sys2Proof.Machine

/-- The sum of the bytes modulo 256 (R150). -/
def add8 (s : List Byte) : Byte := s.foldl (· + ·) 0#8

/-- One of the eight inner steps of R151: shift left by one, the bit shifted out selecting the
exclusive or with 0x1021. -/
def crcShift (crc : Half) : Half :=
  if crc.msb then (crc <<< 1) ^^^ 0x1021#16 else crc <<< 1

/-- One byte of R151: `crc xor (b * 256)`, then eight shifts. -/
def crcByte (crc : Half) (b : Byte) : Half :=
  crcShift (crcShift (crcShift (crcShift
    (crcShift (crcShift (crcShift (crcShift (crc ^^^ (b ++ 0#8)))))))))

/-- The 16-bit register of R151 after all bytes of `s`. -/
def crc16 (s : List Byte) : Half := s.foldl crcByte 0xFFFF#16

/-- `CSUM_W` (R152). -/
def csumW (alg : BitVec 2) : Nat :=
  if alg = 0#2 then 1
  else if alg = 1#2 then 2
  else if Config.reservedCsumWide alg then 2 else 1

/-- `CSUM(s)` (R150, R151, R152), `CSUM_W` bytes; two bytes are most significant first (R61). -/
def csum (alg : BitVec 2) (s : List Byte) : List Byte :=
  if alg = 0#2 then [add8 s]
  else if alg = 1#2 then [hi8 (crc16 s), lo8 (crc16 s)]
  else
    let v := Config.reservedCsum alg s
    if Config.reservedCsumWide alg then [hi8 v, lo8 v] else [lo8 v]

/-- `FRAME_LEN(n)` (R97). -/
def frameLen (c : ConnConfig) (n : Nat) : Nat := hdrW + n + csumW c.csumAlg

/-- `ENCODE(m, dir)` (R153). -/
def encodeFrame (ks : KeyStream) (c : ConnConfig) (m : Message) (dir : Dir) : List Byte :=
  let hdr := frameHeader m.payload.length m.ty m.seq
  hdr ++ cryptPayload ks c dir m.seq m.payload ++ csum c.csumAlg (hdr ++ m.payload)

/-- `PARSE(buf, dir)` (R154). -/
def parse (ks : KeyStream) (p : Params) (c : ConnConfig) (buf : List Byte) (dir : Dir) : Verdict :=
  match buf with
  | l1 :: l0 :: ty :: s1 :: s0 :: rest =>
    let n := (be16 l1 l0).toNat
    if p.maxPayload < n then .badLength
    else
      let total := hdrW + n + csumW c.csumAlg
      if buf.length < total then .needMoreData
      else
        let seq := be16 s1 s0
        let plain := cryptPayload ks c dir seq (rest.take n)
        if csum c.csumAlg ([l1, l0, ty, s1, s0] ++ plain) = (rest.drop n).take (csumW c.csumAlg) then
          .frame { ty := ty, seq := seq, payload := plain } total
        else .badChecksum total
  | _ => .needMoreData

end Sys2Proof.Machine
end

