-- ==== Sys2Proof/Machine/Flags.lean ====
section
/-! DEFINITION. Flags, codes and the words that show them (`spec/10_state.md` R22 to R33, R42;
`spec/30_encoding.md` R99, R102, R108). -/

namespace Sys2Proof.Machine

/-- CPL status codes (R102). -/
def cplCode : CplStatus → BitVec 4
  | .ok => 0x0#4
  | .timeout => 0x1#4
  | .connectionLost => 0x2#4
  | .notConnected => 0x3#4
  | .notConfigured => 0x4#4
  | .badRequest => 0x5#4
  | .unsolicited => 0x8#4

/-- CTL status codes (R99). -/
def ctlCode : CtlStatus → BitVec 4
  | .ok => 0x0#4
  | .badOp => 0x1#4
  | .badCsr => 0x2#4
  | .readOnly => 0x3#4
  | .locked => 0x4#4
  | .configError => 0x5#4
  | .notConfigured => 0x6#4
  | .badState => 0x7#4

/-- The bytes of a record on the CPL port (R101). -/
def cplBytes (r : CplRecord) : List Byte := recordBytes (cplCode r.status) r.tag r.ty r.seq r.payload

/-- `BUSY`: the Operation Lock is held (R23). -/
def busy (f : Fcb) : Bool := f.cst == .wait

/-- `ENC_ON`: `EN = 1` and `KEY_LEN = 8` (R23). -/
def encOn (f : Fcb) : Bool := f.en && f.conf.keyLen == 8#4

/-- CTRL as read (R22). -/
def ctrlWord (f : Fcb) : Word := 0#31 ++ BitVec.ofBool f.en

/-- STATUS as read, from bit 31 down (R23). -/
def statusWord (f : Fcb) : Word :=
  0#12 ++ f.out.tag ++ BitVec.ofNat 4 f.reqq.length ++ f.cfgErrCause ++ 0#1
    ++ BitVec.ofBool (encOn f) ++ BitVec.ofBool f.seqWrap ++ BitVec.ofBool f.forceReconnect
    ++ BitVec.ofBool (busy f) ++ BitVec.ofBool f.link ++ BitVec.ofBool f.cfgErr
    ++ BitVec.ofBool f.en

/-- CFG as read (R24). -/
def cfgWord (c : ConnConfig) : Word :=
  0#22 ++ c.csumAlg ++ c.matchMode ++ c.gen ++ c.keyLen

/-- OUT as read (R31). -/
def outWord (o : OutReg) : Word := o.expTy ++ o.ty ++ o.seq

/-- A fill level, saturated to its 16-bit field (R33). -/
def levelField (n : Nat) : Half := BitVec.ofNat 16 (min n 65535)

/-- LEVELS as read (R33). -/
def levelsWord (f : Fcb) : Word := levelField f.rxbuf.length ++ levelField f.txq.length

/-- `CFG_ERR_CAUSE` of an enable attempt: the lowest-numbered cause that applies, 0 if none
(R108, R224). -/
def configCause (c : ConnConfig) : BitVec 4 :=
  if c.keyLen ≠ 0#4 ∧ c.keyLen ≠ 8#4 then 1#4
  else if c.gen ≠ 0#2 ∧ c.gen ≠ 1#2 then 2#4
  else if c.matchMode = 0#2 then 3#4
  else if c.csumAlg ≠ 0#2 ∧ c.csumAlg ≠ 1#2 then 4#4
  else if c.reqTimeout = 0#16 then 5#4
  else 0#4

/-- Put the mark of a last byte on the last of some bytes. -/
def markLast : List Byte → List CplLane
  | [] => []
  | [b] => [{ data := b, last := true }]
  | b :: bs => { data := b, last := false } :: markLast bs

/-- The bytes of a record as the CPL port streams them, `cpl_last` on the final one (R101). -/
def cplLanes (r : CplRecord) : List CplLane := markLast (cplBytes r)

/-- SEND is enabled, and so `req_ready` high outside reset: it is low only while `LINK = 1` and REQQ
is full (R100, R194). -/
def reqReady (s : State) : Bool := !(s.fcb.link && s.fcb.reqq.length == s.params.qdepth)

/-- The output levels of the block in a clock cycle. -/
structure PortLevels where
  rxReady : Bool
  reqReady : Bool
  txValid : Bool
  cplValid : Bool
  /-- The CTL response of this cycle is valid. -/
  ctlValid : Bool
  forceReconnect : Bool
deriving DecidableEq, Repr

/-- The output levels in a cycle with these levels of `rst` and `ctl_valid`: `rx_ready` always
(R103), `req_ready` (R100), `tx_valid` iff TXQ is not empty (R103), `cpl_valid` while a record is
streamed (R101, `70_reset_and_hazards.md` R289), a response to every command (R98); all of these low
while `rst` is high (`70_reset_and_hazards.md` R280). `force_reconnect` is STATUS.FORCE_RECONNECT at
every moment (R269). The levels are those of the state `s`; which moment of a cycle a handshake reads
them at is the choice of notes/assumptions/15.md. -/
def portLevels (rst ctlValid : Bool) (s : State) : PortLevels :=
  { rxReady := !rst
    reqReady := !rst && reqReady s
    txValid := !rst && !s.fcb.txq.isEmpty
    cplValid := !rst && !s.port.cplOut.isEmpty
    ctlValid := !rst && ctlValid
    forceReconnect := s.fcb.forceReconnect }

/-- `tx_data`: the head of TXQ, valid with `tx_valid` (R103). -/
def txData (s : State) : Option Byte := s.fcb.txq.head?

/-- `cpl_data` and `cpl_last`: the next byte of the record being streamed, valid with `cpl_valid`
(R101). -/
def cplData (s : State) : Option CplLane :=
  s.port.cplOut.head?.bind fun r => (cplLanes r)[s.port.cplSent]?

end Sys2Proof.Machine
end

