-- ==== Sys2Proof/Machine/Operands.lean ====
section
/-! DEFINITION. Operand forms: register numbers and register contents (`spec/10_state.md` R21 to
R33), and the SEND descriptor (`spec/42_correlator.md` R181). -/

namespace Sys2Proof.Machine

/-- The register a CSRN names; none for an undefined number (R21). -/
def csrOf (n : Byte) : Option Csr :=
  match n.toNat with
  | 0x00 => some .ctrl
  | 0x01 => some .status
  | 0x02 => some .cfg
  | 0x03 => some .key0
  | 0x04 => some .key1
  | 0x05 => some .reqTimeout
  | 0x06 => some .toLimit
  | 0x07 => some .txSeq
  | 0x08 => some .timer
  | 0x09 => some .consecTo
  | 0x0A => some .out
  | 0x10 => some .cntTx
  | 0x11 => some .cntRxOk
  | 0x12 => some .cntCsumErr
  | 0x13 => some .cntMalformed
  | 0x14 => some .cntUnsol
  | 0x15 => some .cntTimeout
  | 0x16 => some .cntRxDiscard
  | 0x18 => some .levels
  | _ => none

/-- The read-only registers (R21, R223). -/
def csrReadOnly : Csr → Bool
  | .status | .timer | .consecTo | .out => true
  | .cntTx | .cntRxOk | .cntCsumErr | .cntMalformed | .cntUnsol | .cntTimeout | .cntRxDiscard => true
  | .levels => true
  | .ctrl | .cfg | .key0 | .key1 | .reqTimeout | .toLimit | .txSeq => false

/-- The lock table (`43_control.md` R228). -/
def csrLocked (f : Fcb) : Csr → Bool
  | .cfg | .key0 | .key1 | .reqTimeout | .toLimit => f.en
  | .txSeq => f.link
  | _ => false

/-- The value a CSR_READ of a defined register answers; KEY0 and KEY1 read as 0 (R21, R222). -/
def csrValue (f : Fcb) : Csr → Word
  | .ctrl => ctrlWord f
  | .status => statusWord f
  | .cfg => cfgWord f.conf
  | .key0 => 0#32
  | .key1 => 0#32
  | .reqTimeout => f.conf.reqTimeout.setWidth 32
  | .toLimit => f.conf.toLimit.setWidth 32
  | .txSeq => f.txSeq.setWidth 32
  | .timer => f.timer.setWidth 32
  | .consecTo => f.consecTo.setWidth 32
  | .out => outWord f.out
  | .cntTx => f.cnt.tx
  | .cntRxOk => f.cnt.rxOk
  | .cntCsumErr => f.cnt.csumErr
  | .cntMalformed => f.cnt.malformed
  | .cntUnsol => f.cnt.unsol
  | .cntTimeout => f.cnt.timeout
  | .cntRxDiscard => f.cnt.rxDiscard
  | .levels => levelsWord f

/-- Byte `k` of a 32-bit datum, byte 0 the most significant (R25, R61). -/
def wordByte (v : Word) (k : Nat) : Byte := v.extractLsb' (24 - 8 * k) 8

/-- The configuration with CFG written (R24, R223): bits 9:0 taken, the rest dropped. -/
def confSetCfg (c : ConnConfig) (v : Word) : ConnConfig :=
  { c with
    keyLen := v.extractLsb' 0 4, gen := v.extractLsb' 4 2
    matchMode := v.extractLsb' 6 2, csumAlg := v.extractLsb' 8 2 }

/-- The configuration with KEY0 written: key bytes 0 to 3 (R25). -/
def confSetKey0 (c : ConnConfig) (v : Word) : ConnConfig :=
  { c with
    key := { c.key with b0 := wordByte v 0, b1 := wordByte v 1, b2 := wordByte v 2, b3 := wordByte v 3 } }

/-- The configuration with KEY1 written: key bytes 4 to 7 (R25). -/
def confSetKey1 (c : ConnConfig) (v : Word) : ConnConfig :=
  { c with
    key := { c.key with b4 := wordByte v 0, b5 := wordByte v 1, b6 := wordByte v 2, b7 := wordByte v 3 } }

/-- `DECODE_DESC(desc)` (R181). The six failures all give `bad`, with the TAG and TYPE of the first
two bytes where there are any, else 15 and 0. -/
def decodeDesc (p : Params) : List Byte → DescVerdict
  | [] => .bad 15#4 0#8
  | [b0] => .bad (b0.extractLsb' 0 4) 0#8
  | b0 :: ty :: expTy :: b3 :: t1 :: t0 :: p1 :: p0 :: payload =>
    let tag := b0.extractLsb' 0 4
    if b0.extractLsb' 4 4 ≠ 0#4 then .bad tag ty
    else if tag = 15#4 then .bad tag ty
    else if b3 ≠ 0#8 then .bad tag ty
    else if p.maxPayload < (be16 p1 p0).toNat then .bad tag ty
    else if payload.length ≠ (be16 p1 p0).toNat then .bad tag ty
    else .good { tag := tag, ty := ty, expTy := expTy, timeout := be16 t1 t0, payload := payload }
  | b0 :: ty :: _ => .bad (b0.extractLsb' 0 4) ty

/-- The bytes of a descriptor (`30_encoding.md` R100). -/
def descBytes (d : Descriptor) : List Byte :=
  let plen := BitVec.ofNat 16 d.payload.length
  [0#4 ++ d.tag, d.ty, d.expTy, 0#8, hi8 d.timeout, lo8 d.timeout, hi8 plen, lo8 plen] ++ d.payload

end Sys2Proof.Machine
end

