-- ==== Sys2Proof/Machine/Ops.lean ====
section
/-! DEFINITION. The shared operations: queue primitives, outputs, error events, and the internal
steps ISSUE, SETTLE, DELIVER, DEFRAME, TIMEOUT_COMPLETION and FAIL_ALL. The block takes no exception
(`spec/60_exceptions.md` R261): an error event is a report by `respond`, `emit` or a counter. -/

namespace Sys2Proof.Machine

/-! ### Queue primitives (`20_memory.md` R76) -/

/-- `push(Q, s)`. -/
def push {α : Type} (q s : List α) : List α := q ++ s

/-- `drop(Q, n)`. -/
def dropFront {α : Type} (q : List α) (n : Nat) : List α := q.drop n

/-- `free(Q)` of a queue of capacity `cap`. -/
def free {α : Type} (cap : Nat) (q : List α) : Nat := cap - q.length

/-! ### Outputs -/

/-- `emit CPL{...}` for some records: append them to the output trace of the CPL port (`00_scope.md`
R8) and to its output buffer (`70_reset_and_hazards.md` R289). -/
def emitAll (rs : List CplRecord) (s : State) : State :=
  { s with port := { s.port with
      cplTrace := push s.port.cplTrace rs, cplOut := push s.port.cplOut rs } }

/-- `emit CPL{...}` (`00_scope.md` R8). -/
def emit (r : CplRecord) (s : State) : State := emitAll [r] s

/-- `return (status, rdata)`: the response of a CTL command (`30_encoding.md` R99). -/
def respond (status : CtlStatus) (rdata : Word) (s : State) : State :=
  { s with port := { s.port with ctlTrace := push s.port.ctlTrace [{ status := status, rdata := rdata }] } }

/-! ### Counters (`10_state.md` R32): each wraps modulo 2^32 -/

/-- `CNT_RX_OK` + 1. -/
def countRxOk (s : State) : State :=
  { s with fcb := { s.fcb with cnt := { s.fcb.cnt with rxOk := s.fcb.cnt.rxOk + 1#32 } } }

/-- `CNT_CSUM_ERR` + 1. -/
def countCsumErr (s : State) : State :=
  { s with fcb := { s.fcb with cnt := { s.fcb.cnt with csumErr := s.fcb.cnt.csumErr + 1#32 } } }

/-- `CNT_MALFORMED` + 1. -/
def countMalformed (s : State) : State :=
  { s with fcb := { s.fcb with cnt := { s.fcb.cnt with malformed := s.fcb.cnt.malformed + 1#32 } } }

/-- `CNT_UNSOL` + 1. -/
def countUnsol (s : State) : State :=
  { s with fcb := { s.fcb with cnt := { s.fcb.cnt with unsol := s.fcb.cnt.unsol + 1#32 } } }

/-- `CNT_RX_DISCARD` + 1. -/
def countRxDiscard (s : State) : State :=
  { s with fcb := { s.fcb with cnt := { s.fcb.cnt with rxDiscard := s.fcb.cnt.rxDiscard + 1#32 } } }

/-- `drop(RXBUF, n)`. -/
def dropRx (n : Nat) (s : State) : State :=
  { s with fcb := { s.fcb with rxbuf := dropFront s.fcb.rxbuf n } }

/-! ### ISSUE and SETTLE (`42_correlator.md` R182 to R184) -/

/-- The frame at the head of REQQ fits in TXQ whole; false when REQQ is empty (R182). -/
def headFits (s : State) : Bool :=
  match s.fcb.reqq with
  | [] => false
  | d :: _ => decide (frameLen s.fcb.conf d.payload.length ≤ free s.params.txqBytes s.fcb.txq)

/-- ISSUE is enabled (R182). -/
def issueEnabled (s : State) : Bool :=
  s.fcb.en && s.fcb.link && s.fcb.cst == .idle && headFits s

/-- The timer an exchange starts with: the descriptor's TIMEOUT, or REQ_TIMEOUT when that is 0
(R183). -/
def exchangeTimeout (c : ConnConfig) (d : Descriptor) : Half :=
  if d.timeout ≠ 0#16 then d.timeout else c.reqTimeout

/-- The frame ISSUE builds for a descriptor (R183). -/
def requestFrame (f : Fcb) (d : Descriptor) : List Byte :=
  encodeFrame Config.ks f.conf { ty := d.ty, seq := f.txSeq, payload := d.payload } .toPanel

/-- ISSUE of the descriptor `d`, `rest` being the queue behind it (R183). -/
def issueHead (d : Descriptor) (rest : List Descriptor) (s : State) : State :=
  let seq := s.fcb.txSeq
  let next := seq + 1#16
  { s with
    fcb := { s.fcb with
      reqq := rest
      txq := push s.fcb.txq (requestFrame s.fcb d)
      out := { tag := d.tag, ty := d.ty, expTy := d.expTy, seq := seq }
      timer := exchangeTimeout s.fcb.conf d
      cst := .wait
      txSeq := next
      seqWrap := s.fcb.seqWrap || next == 0#16
      cnt := { s.fcb.cnt with tx := s.fcb.cnt.tx + 1#32 } } }

/-- ISSUE: it takes the head of REQQ (R183). -/
def issue (s : State) : State :=
  match s.fcb.reqq with
  | [] => s
  | d :: rest => issueHead d rest s

/-- SETTLE: ISSUE if it is enabled (R184). -/
def settle (s : State) : State := if issueEnabled s then issue s else s

/-! ### Matching and delivery (R185, R186) -/

/-- `MATCH(m)`: MATCH_MODE bit 0 (CFG bit 6) compares the type, bit 1 (CFG bit 7) the token (R185). -/
def matchesOut (c : ConnConfig) (out : OutReg) (m : Message) : Bool :=
  (!c.matchMode.getLsbD 0 || m.ty == out.expTy) && (!c.matchMode.getLsbD 1 || m.seq == out.seq)

/-- The received message answers the outstanding request (R186): the lock is held, the request has
left TXQ whole (`20_memory.md` R69), and it matches. -/
def answers (s : State) (m : Message) : Bool :=
  s.fcb.cst == .wait && s.fcb.txq.isEmpty && matchesOut s.fcb.conf s.fcb.out m

/-- `DELIVER(m)` (R186). -/
def deliver (m : Message) (s : State) : State :=
  if answers s m then
    let e := emit { status := .ok, tag := s.fcb.out.tag, ty := m.ty, seq := m.seq, payload := m.payload } s
    { e with fcb := { e.fcb with cst := .idle, timer := 0#16, consecTo := 0#8 } }
  else
    countUnsol
      (emit { status := .unsolicited, tag := 15#4, ty := m.ty, seq := m.seq, payload := m.payload } s)

/-- The verdict of PARSE on RXBUF (`41_frame_codec.md` R156: `PARSE(RXBUF, 1)`). -/
def rxVerdict (s : State) : Verdict := parse Config.ks s.params s.fcb.conf s.fcb.rxbuf .fromPanel

/-- The loop of DEFRAME (R156). Every turn but the last takes at least one byte from RXBUF, so a
bound of RXBUF's length never cuts it short (notes/assumptions/13.md). -/
def deframeLoop : Nat → State → State
  | 0, s => s
  | k + 1, s =>
    match rxVerdict s with
    | .needMoreData => s
    | .badLength => deframeLoop k (dropRx 1 (countMalformed s))
    | .badChecksum total => deframeLoop k (dropRx total (countCsumErr s))
    | .frame m total => deframeLoop k (deliver m (countRxOk (dropRx total s)))

/-- `DEFRAME` (R156). -/
def deframe (s : State) : State := deframeLoop s.fcb.rxbuf.length s

/-! ### Time (R187 to R189) -/

/-- `TIMER - 1`; from 0, which R163 excludes, a free value (notes/assumptions/4.md). -/
def timerPred (t : Half) : Half := if t = 0#16 then Config.timerBelowZero else t - 1#16

/-- `min(CONSEC_TO + 1, 255)` (R188). -/
def consecSucc (n : Byte) : Byte := if n = 255#8 then 255#8 else n + 1#8

/-- The consecutive-timeout policy of R188 and R189 for a count `n`. -/
def limitReached (c : ConnConfig) (n : Byte) : Bool :=
  c.toLimit != 0#8 && decide (c.toLimit.toNat ≤ n.toNat)

/-- `TIMEOUT_COMPLETION` (R188). -/
def timeoutCompletion (s : State) : State :=
  let e := emit { status := .timeout, tag := s.fcb.out.tag, ty := s.fcb.out.ty, seq := s.fcb.out.seq
                  payload := [] } s
  let n := consecSucc s.fcb.consecTo
  { e with
    fcb := { e.fcb with
      cnt := { e.fcb.cnt with timeout := e.fcb.cnt.timeout + 1#32 }
      consecTo := n
      forceReconnect := e.fcb.forceReconnect || limitReached e.fcb.conf n
      cst := .idle } }

/-- The part of TICK before SETTLE (R187). -/
def tickTimer (s : State) : State :=
  match s.fcb.cst with
  | .idle => s
  | .wait =>
    let t := timerPred s.fcb.timer
    let s1 := { s with fcb := { s.fcb with timer := t } }
    if t = 0#16 then timeoutCompletion s1 else s1

/-! ### Connection loss (R190) -/

/-- The CONNECTION_LOST records of FAIL_ALL: the outstanding request first, with its SEQ, then the
queued ones head first, with SEQ 0 (R190). -/
def lostRecords (f : Fcb) : List CplRecord :=
  (match f.cst with
    | .wait => [{ status := .connectionLost, tag := f.out.tag, ty := f.out.ty, seq := f.out.seq, payload := [] }]
    | .idle => [])
  ++ f.reqq.map fun d =>
      { status := .connectionLost, tag := d.tag, ty := d.ty, seq := 0#16, payload := [] }

/-- `FAIL_ALL` (R190). -/
def failAll (s : State) : State :=
  let e := emitAll (lostRecords s.fcb) s
  { e with
    fcb := { e.fcb with
      reqq := [], txq := [], rxbuf := [], cst := .idle, timer := 0#16, consecTo := 0#8
      forceReconnect := false, link := false } }

end Sys2Proof.Machine
end

