-- ==== Sys2Proof/Machine/Codec.lean ====
section
/-! DEFINITION. The port operations of the frame codec: RX_BYTE, TX_POP, and a whole FRAME on either
wire stream (`spec/41_frame_codec.md`). -/

namespace Sys2Proof.Machine

/-- One received byte (R155). -/
def receiveByte (b : Byte) (s : State) : State :=
  if s.fcb.en && s.fcb.link then
    settle (deframe { s with fcb := { s.fcb with rxbuf := push s.fcb.rxbuf [b] } })
  else countRxDiscard s

/-- One byte to the Transport Session (R161). While TXQ is empty `tx_valid` is low and the session
"simply gets nothing". -/
def popByte (s : State) : State :=
  match s.fcb.txq with
  | [] => s
  | b :: rest =>
    settle
      { s with
        fcb := { s.fcb with txq := rest }
        port := { s.port with txTrace := push s.port.txTrace [b] } }

/-- `n` TX_POP operations (`30_encoding.md` R106: `TXPOP n`). -/
def popBytes : Nat → State → State
  | 0, s => s
  | n + 1, s => popBytes n (popByte s)

/-- One RX_BYTE per byte, in order (`30_encoding.md` R106: `RX [bytes]`). -/
def receiveBytes (bs : List Byte) (s : State) : State := bs.foldl (fun t b => receiveByte b t) s

/-- Bytes to the Transport Session: if they stand at the head of TXQ they are popped one after the
other (`30_encoding.md` R106: `TXPOP n`), otherwise the block puts no such bytes on the wire and
nothing happens (notes/assumptions/8.md). -/
def handBytes (bs : List Byte) (s : State) : State :=
  if bs.isPrefixOf s.fcb.txq then popBytes bs.length s else s

/-- Bytes cross a wire stream (`30_encoding.md` R91, both directions), whether or not they are one
whole frame. -/
def wireBytes (dir : Dir) (bs : List Byte) (s : State) : State :=
  match dir with
  | .fromPanel => receiveBytes bs s
  | .toPanel => handBytes bs s

/-- RX_BYTE (R155). -/
def execRxByte (b : Byte) (s : State) : Host.Outcome State Fault Refusal := .next (receiveByte b s)

/-- TX_POP (R161). -/
def execTxPop (s : State) : Host.Outcome State Fault Refusal := .next (popByte s)

/-- A whole frame crosses a wire stream (`30_encoding.md` R91, both directions;
notes/assumptions/8.md). -/
def execFrame (dir : Dir) (ty : Byte) (seq : Half) (body csum : List Byte) (s : State) :
    Host.Outcome State Fault Refusal :=
  .next (wireBytes dir (frameBytes ty seq body csum) s)

end Sys2Proof.Machine
end

