-- ==== Sys2Proof/Machine/Completion.lean ====
section
/-! DEFINITION. The records of the CPL port as transactions (`spec/30_encoding.md` R101, R102). The
operations of `42_correlator.md` emit them; here the host takes the next one
(notes/assumptions/7.md). -/

namespace Sys2Proof.Machine

/-- The record `r` crosses the CPL port: it does so exactly when it is the first record in the port's
output buffer (R71: in the order they are emitted); what is left of it is streamed out and taken. The
block presents no other record, so any other crossing does not take place and changes nothing. -/
def takeRecord (r : CplRecord) (s : State) : State :=
  if s.port.cplOut.head? = some r then
    { s with port := { s.port with
        cplOut := dropFront s.port.cplOut 1
        cplSent := 0
        cplStream := push s.port.cplStream (dropFront (cplLanes r) s.port.cplSent) } }
  else s

/-- One clock cycle of the CPL port: the next byte of the first record in the output buffer is
offered. The port has no ready input, so the byte leaves the buffer whether or not the host takes it,
and one that is not taken is lost; the record leaves the buffer with its last byte (R101,
`70_reset_and_hazards.md` R289). With nothing to offer `cpl_valid` is low and nothing happens. -/
def streamByte (taken : Bool) (s : State) : State :=
  match s.port.cplOut, cplData s with
  | _ :: rest, some lane =>
    { s with port := { s.port with
        cplOut := if lane.last then rest else s.port.cplOut
        cplSent := if lane.last then 0 else s.port.cplSent + 1
        cplStream := if taken then push s.port.cplStream [lane] else s.port.cplStream } }
  | _, _ => s

/-- CPL_OK (R102 code 0x0). -/
def execCplOk (tag : BitVec 4) (ty : Byte) (seq : Half) (payload : List Byte) (s : State) :
    Host.Outcome State Fault Refusal :=
  .next (takeRecord { status := .ok, tag := tag, ty := ty, seq := seq, payload := payload } s)

/-- CPL_TIMEOUT (R102 code 0x1). -/
def execCplTimeout (tag : BitVec 4) (ty : Byte) (seq : Half) (payload : List Byte) (s : State) :
    Host.Outcome State Fault Refusal :=
  .next (takeRecord { status := .timeout, tag := tag, ty := ty, seq := seq, payload := payload } s)

/-- CPL_CONNECTION_LOST (R102 code 0x2). -/
def execCplConnectionLost (tag : BitVec 4) (ty : Byte) (seq : Half) (payload : List Byte)
    (s : State) : Host.Outcome State Fault Refusal :=
  .next (takeRecord { status := .connectionLost, tag := tag, ty := ty, seq := seq, payload := payload } s)

/-- CPL_NOT_CONNECTED (R102 code 0x3). -/
def execCplNotConnected (tag : BitVec 4) (ty : Byte) (seq : Half) (payload : List Byte)
    (s : State) : Host.Outcome State Fault Refusal :=
  .next (takeRecord { status := .notConnected, tag := tag, ty := ty, seq := seq, payload := payload } s)

/-- CPL_NOT_CONFIGURED (R102 code 0x4). -/
def execCplNotConfigured (tag : BitVec 4) (ty : Byte) (seq : Half) (payload : List Byte)
    (s : State) : Host.Outcome State Fault Refusal :=
  .next (takeRecord { status := .notConfigured, tag := tag, ty := ty, seq := seq, payload := payload } s)

/-- CPL_BAD_REQUEST (R102 code 0x5). -/
def execCplBadRequest (tag : BitVec 4) (ty : Byte) (seq : Half) (payload : List Byte) (s : State) :
    Host.Outcome State Fault Refusal :=
  .next (takeRecord { status := .badRequest, tag := tag, ty := ty, seq := seq, payload := payload } s)

/-- CPL_UNSOLICITED (R102 code 0x8): TAG 15. -/
def execCplUnsolicited (ty : Byte) (seq : Half) (payload : List Byte) (s : State) :
    Host.Outcome State Fault Refusal :=
  .next (takeRecord { status := .unsolicited, tag := 15#4, ty := ty, seq := seq, payload := payload } s)

end Sys2Proof.Machine
end

