-- ==== Sys2Proof/Machine/Control.lean ====
section
/-! DEFINITION. The CTL commands (`spec/43_control.md`). Every command ends with SETTLE, which finds
nothing to issue in any reachable state (R220, R184; notes/assumptions/12.md). -/

namespace Sys2Proof.Machine

/-- `CSR_READ(n)` up to its response (R222). -/
def csrRead (n : Byte) (s : State) : State :=
  match csrOf n with
  | none => respond .badCsr 0#32 s
  | some c => respond .ok (csrValue s.fcb c) s

/-- `CTRL_WRITE(1)` while `EN = 0`: the configuration check (R224). -/
def enable (s : State) : State :=
  let cause := configCause s.fcb.conf
  if cause = 0#4 then
    respond .ok 0#32 { s with fcb := { s.fcb with en := true, cfgErr := false, cfgErrCause := 0#4 } }
  else
    respond .configError 0#32 { s with fcb := { s.fcb with cfgErr := true, cfgErrCause := cause } }

/-- Bring the link down with every pending request, if it is up (R225, R227). -/
def dropLink (s : State) : State := if s.fcb.link then failAll s else s

/-- `CTRL_WRITE(0)` while `EN = 1`: disable (R225). -/
def disable (s : State) : State :=
  let d := dropLink s
  respond .ok 0#32 { d with fcb := { d.fcb with en := false } }

/-- `CTRL_WRITE(bit)`: a write that does not change `EN` has no effect (R22, R224, R225). -/
def ctrlWrite (bit : Bool) (s : State) : State :=
  match bit, s.fcb.en with
  | true, false => enable s
  | false, true => disable s
  | _, _ => respond .ok 0#32 s

/-- The configuration with the datum `v` stored in a configuration register (R223). -/
def confStore (conf : ConnConfig) (v : Word) : Csr → ConnConfig
  | .cfg => confSetCfg conf v
  | .key0 => confSetKey0 conf v
  | .key1 => confSetKey1 conf v
  | .reqTimeout => { conf with reqTimeout := v.extractLsb' 0 16 }
  | .toLimit => { conf with toLimit := v.extractLsb' 0 8 }
  | _ => conf

/-- The accepted part of CSR_WRITE: the `case n of` of R223. -/
def csrStore (c : Csr) (v : Word) (s : State) : State :=
  match c with
  | .ctrl => ctrlWrite (v.getLsbD 0) s
  | .txSeq =>
    respond .ok 0#32 { s with fcb := { s.fcb with txSeq := v.extractLsb' 0 16, seqWrap := false } }
  | c => respond .ok 0#32 { s with fcb := { s.fcb with conf := confStore s.fcb.conf v c } }

/-- `CSR_WRITE(n, v)` up to SETTLE: BAD_CSR, READ_ONLY, LOCKED in that order, then the write (R223,
`60_exceptions.md` R260). -/
def csrWrite (n : Byte) (v : Word) (s : State) : State :=
  match csrOf n with
  | none => respond .badCsr 0#32 s
  | some c =>
    if csrReadOnly c then respond .readOnly 0#32 s
    else if csrLocked s.fcb c then respond .locked 0#32 s
    else csrStore c v s

/-- `LINK_UP` up to SETTLE (R226). -/
def linkUp (s : State) : State :=
  if s.fcb.en = false then respond .notConfigured 0#32 s
  else if s.fcb.link then respond .badState 0#32 s
  else respond .ok 0#32 { s with fcb := { s.fcb with link := true } }

/-- `LINK_DOWN` up to SETTLE (R227). -/
def linkDown (s : State) : State :=
  if s.fcb.en = false then respond .notConfigured 0#32 s
  else respond .ok 0#32 (dropLink s)

/-- NOP (R221). -/
def execNop (s : State) : Host.Outcome State Fault Refusal := .next (settle (respond .ok 0#32 s))

/-- CSR_READ (R222). -/
def execCsrRead (n : Byte) (s : State) : Host.Outcome State Fault Refusal :=
  .next (settle (csrRead n s))

/-- CSR_WRITE (R223). -/
def execCsrWrite (n : Byte) (v : Word) (s : State) : Host.Outcome State Fault Refusal :=
  .next (settle (csrWrite n v s))

/-- LINK_UP (R226). -/
def execLinkUp (s : State) : Host.Outcome State Fault Refusal := .next (settle (linkUp s))

/-- LINK_DOWN (R227). -/
def execLinkDown (s : State) : Host.Outcome State Fault Refusal := .next (settle (linkDown s))

/-- CTL_RESERVED: `(BAD_OP, 0)` whatever the three fields of the word (R229). -/
def execCtlReserved (_op _rsv : BitVec 4) (_csrn : Byte) (s : State) :
    Host.Outcome State Fault Refusal :=
  .next (settle (respond .badOp 0#32 s))

end Sys2Proof.Machine
end

