-- ==== Sys2Proof/Machine/Correlator.lean ====
section
/-! DEFINITION. The port operations of the request correlator: SEND and TICK
(`spec/42_correlator.md`). -/

namespace Sys2Proof.Machine

/-- The record of a request refused at SEND: SEQ 0 and no payload (R180, `30_encoding.md` R101). -/
def refuseRequest (status : CplStatus) (tag : BitVec 4) (ty : Byte) (s : State) : State :=
  emit { status := status, tag := tag, ty := ty, seq := 0#16, payload := [] } s

/-- `push(REQQ, [d])`, then SETTLE (R180). -/
def acceptRequest (d : Descriptor) (s : State) : State :=
  settle { s with fcb := { s.fcb with reqq := push s.fcb.reqq [d] } }

/-- The body of SEND once it is enabled (R180). -/
def sendRequest (desc : List Byte) (s : State) : State :=
  match decodeDesc s.params desc with
  | .bad tag ty => refuseRequest .badRequest tag ty s
  | .good d =>
    if s.fcb.en = false then refuseRequest .notConfigured d.tag d.ty s
    else if s.fcb.link = false then refuseRequest .notConnected d.tag d.ty s
    else acceptRequest d s

/-- The bytes are held on the REQ port, behind what is held there already (R194). -/
def holdRequest (item : ReqItem) (s : State) : State :=
  { s with port := { s.port with reqWaiting := push s.port.reqWaiting [item] } }

/-- SEND (R180). While it is not enabled the descriptor waits on the port, "unaccepted and without
effect" (R194), and `fetch` presents it again (notes/assumptions/9.md). -/
def execSend (desc : List Byte) (s : State) : Host.Outcome State Fault Refusal :=
  .next (if reqReady s then sendRequest desc s
    else holdRequest { bytes := desc, last := true } s)

/-- TICK (R187). -/
def execTick (s : State) : Host.Outcome State Fault Refusal := .next (settle (tickTimer s))

end Sys2Proof.Machine
end

