-- ==== Sys2Proof/Machine/ResetOp.lean ====
section
/-! DEFINITION. RESET (`spec/70_reset_and_hazards.md` R280, R281). -/

namespace Sys2Proof.Machine

/-- RESET: every register, flag, counter and store takes its reset value; nothing is emitted; a
descriptor being assembled is discarded, and a record being streamed out is cut short, the records
behind it in the buffer with it (R281, R289; notes/assumptions/16.md). What has already left the
ports, or still waits outside them, is no state of the block and stays (notes/assumptions/6.md). -/
def execReset (s : State) : Host.Outcome State Fault Refusal :=
  .next { s with
    fcb := Fcb.reset
    port := { s.port with reqPart := [], cplOut := [], cplSent := 0 } }

end Sys2Proof.Machine
end

