-- ==== Sys2Proof/Machine/Dispatch.lean ====
section
/-! DEFINITION. One arm per row of `spec/opcode_table.json`. -/

namespace Sys2Proof.Machine

def exec (i : Instr) (s : State) : Host.Outcome State Fault Refusal :=
  match i with
  | .nop => Sys2Proof.Machine.execNop s
  | .csrRead n => Sys2Proof.Machine.execCsrRead n s
  | .csrWrite n v => Sys2Proof.Machine.execCsrWrite n v s
  | .linkUp => Sys2Proof.Machine.execLinkUp s
  | .linkDown => Sys2Proof.Machine.execLinkDown s
  | .ctlReserved op rsv csrn => Sys2Proof.Machine.execCtlReserved op rsv csrn s
  | .send desc => Sys2Proof.Machine.execSend desc s
  | .cplOk tag ty seq payload => Sys2Proof.Machine.execCplOk tag ty seq payload s
  | .cplTimeout tag ty seq payload => Sys2Proof.Machine.execCplTimeout tag ty seq payload s
  | .cplConnectionLost tag ty seq payload => Sys2Proof.Machine.execCplConnectionLost tag ty seq payload s
  | .cplNotConnected tag ty seq payload => Sys2Proof.Machine.execCplNotConnected tag ty seq payload s
  | .cplNotConfigured tag ty seq payload => Sys2Proof.Machine.execCplNotConfigured tag ty seq payload s
  | .cplBadRequest tag ty seq payload => Sys2Proof.Machine.execCplBadRequest tag ty seq payload s
  | .cplUnsolicited ty seq payload => Sys2Proof.Machine.execCplUnsolicited ty seq payload s
  | .frame dir ty seq body csum => Sys2Proof.Machine.execFrame dir ty seq body csum s
  | .rxByte b => Sys2Proof.Machine.execRxByte b s
  | .txPop => Sys2Proof.Machine.execTxPop s
  | .tick => Sys2Proof.Machine.execTick s
  | .reset => Sys2Proof.Machine.execReset s

end Sys2Proof.Machine
end

