-- ==== Sys2Proof/Machine/Fetch.lean ====
section
/-! DEFINITION. Which stimulus the block takes next, the effect of one that is no row of the opcode
table, and the order of operations within one clock cycle (`spec/42_correlator.md` R194,
`spec/20_memory.md` R77). -/

namespace Sys2Proof.Machine

/-- The REQ port is sampled: if SEND is enabled the first bytes that wait there are accepted, which
presents a SEND if they end the descriptor and only fills the assembly buffer if not (R100, R194,
R38(c)). While it is not enabled they wait on (notes/assumptions/9.md). -/
def sampleReq (s : State) : Option PortEvent × State :=
  match s.port.reqWaiting with
  | [] => (none, s)
  | item :: rest =>
    if reqReady s then
      let bytes := push s.port.reqPart item.bytes
      if item.last then
        (some (.req { bytes := bytes, last := true }),
          { s with port := { s.port with reqWaiting := rest, reqPart := [] } })
      else (none, { s with port := { s.port with reqWaiting := rest, reqPart := bytes } })
    else (none, s)

/-- The stimulus the next operation is made of, if there is one, and the state with it taken from
the port (notes/assumptions/5.md). Bytes presented on the REQ port stand behind the ones that wait
there, and the port is sampled; when the outside presents nothing it is sampled all the same. -/
def fetch (s : State) : Option PortEvent × State :=
  match s.port.inbox with
  | [] => sampleReq s
  | .req item :: rest =>
    sampleReq { s with port := { s.port with
      inbox := rest, reqWaiting := push s.port.reqWaiting [item] } }
  | .reqSample :: rest => sampleReq { s with port := { s.port with inbox := rest } }
  | e :: rest => (some e, { s with port := { s.port with inbox := rest } })

/-- The effect of a stimulus that is no row of the opcode table: every input in every state has a
defined result (`60_exceptions.md` R250). Bytes on a wire stream that are not one whole frame are
bytes all the same; a cycle of the CPL port offers a byte; bytes on the CPL port that are no record
are none the block presents, and a strobe wire that is low presents no operation (R103;
notes/assumptions/11.md). -/
def runUnlisted (e : PortEvent) (s : State) : State :=
  match e with
  | .wire dir bytes => wireBytes dir bytes s
  | .cplByte taken => streamByte taken s
  | .ctl _ _ | .req _ | .reqSample | .cpl _ | .rx _ | .txReady _ | .tick _ | .rst _ => s

/-- `s` with the stimulus `e` next, before anything that waits. -/
def presentNext (e : PortEvent) (s : State) : State :=
  match e with
  | .req item =>
    { s with port := { s.port with
        inbox := .reqSample :: s.port.inbox
        reqWaiting := item :: s.port.reqWaiting
        reqPart := [] } }
  | _ => { s with port := { s.port with inbox := e :: s.port.inbox } }

/-- What the wires carry in one clock cycle: at most one operation per port (R6). -/
structure CycleInputs where
  rst : Bool
  ctl : Option (Half × Word)
  rx : Option Byte
  tick : Bool
  /-- New on the REQ port; what waits there is presented in every cycle. -/
  req : Option ReqItem
  txReady : Bool
  /-- The host takes the byte the CPL port offers in this cycle, if it offers one. -/
  cplTaken : Bool
deriving DecidableEq, Repr

/-- What happens in one cycle, in the order of R77: RESET alone, else CTL, RX_BYTE, TICK, SEND (the one
point at which the REQ port is sampled, new bytes or not), TX_POP (notes/assumptions/15.md).
DESIGN CHOICE: a handshake is taken or not by the state at its own place in this order, so TX_POP
finds `tx_valid` high if an operation of the same cycle, before it, has put the first byte in TXQ
(notes/assumptions/15.md). DESIGN CHOICE: the CPL port offers a byte in every cycle in which its
output buffer is not empty as the cycle begins, before the operations of the cycle; a byte not taken
then is lost (R289; notes/assumptions/16.md). -/
def cycleEvents (c : CycleInputs) : List PortEvent :=
  if c.rst then [.rst 1#1]
  else
    [.cplByte c.cplTaken]
    ++ (c.ctl.map fun w => PortEvent.ctl w.1 w.2).toList
    ++ (c.rx.map fun b => PortEvent.rx (1#1 ++ b)).toList
    ++ (if c.tick then [.tick 1#1] else [])
    ++ [match c.req with | some item => .req item | none => .reqSample]
    ++ (if c.txReady then [.txReady 1#1] else [])

/-- The state with one clock cycle's inputs presented after what already waits. -/
def withCycle (c : CycleInputs) (s : State) : State :=
  { s with port := { s.port with inbox := s.port.inbox ++ cycleEvents c } }

end Sys2Proof.Machine
end

