-- ==== Sys2Proof/Machine/Step.lean ====
section
/-! DEFINITION. One step: the next stimulus is taken, decoded and run. -/

namespace Sys2Proof.Machine

/-- One operation (`spec/00_scope.md` R6), or the effect of a stimulus that is none. With nothing to
take the block "does nothing until told" (`70_reset_and_hazards.md` R282). -/
def step (s : State) : Host.Outcome State Fault Refusal :=
  match fetch s with
  | (none, t) => .next t
  | (some e, t) =>
    match decode e with
    | .ok i => exec i t
    | .error _ => .next (runUnlisted e t)

/-- `s` with a word of the opcode table presented next, before anything that waits in the inbox or
on the REQ port. -/
def State.withFetchWord (s : State) (nbits w : Nat) : State :=
  match tableEvent nbits w with
  | none => s
  | some e => presentNext e s

end Sys2Proof.Machine
end

