-- ==== Sys2Proof/Safety.lean ====
section
/-! DEFINITION. What a good state and a run are, in the terms the statements use
(`spec/10_state.md` R40). -/

namespace Sys2Proof.Machine

/-- A legal configuration (R40(h), `43_control.md` R224). -/
abbrev ConnConfig.Legal (c : ConnConfig) : Prop :=
  (c.keyLen = 0#4 ∨ c.keyLen = 8#4) ∧ (c.gen = 0#2 ∨ c.gen = 1#2) ∧ c.matchMode ≠ 0#2
    ∧ (c.csumAlg = 0#2 ∨ c.csumAlg = 1#2) ∧ c.reqTimeout ≠ 0#16

/-- A descriptor REQQ may hold: TAG 0..14 and at most `MAX_PAYLOAD` bytes (R35, `30_encoding.md`
R100). -/
abbrev Descriptor.Legal (p : Params) (d : Descriptor) : Prop :=
  d.tag ≠ 15#4 ∧ d.payload.length ≤ p.maxPayload

/-- The invariants of R40, which hold after reset and after every operation. R40(f), one `CST` and
one `OUT`, is the shape of `Fcb`. -/
structure BlockInv (s : State) : Prop where
  /-- The parameters are in their ranges (R5). -/
  params : s.params.Legal
  /-- R40(a). -/
  disabled : s.fcb.en = false → s.fcb.link = false
  /-- R40(b). -/
  unlinked : s.fcb.link = false →
    s.fcb.reqq = [] ∧ s.fcb.txq = [] ∧ s.fcb.rxbuf = [] ∧ s.fcb.cst = .idle
      ∧ s.fcb.consecTo = 0#8 ∧ s.fcb.forceReconnect = false
  /-- R40(c), first half. -/
  idleTimer : s.fcb.cst = .idle → s.fcb.timer = 0#16
  /-- R40(c), second half. -/
  waitTimer : s.fcb.cst = .wait → s.fcb.timer ≠ 0#16
  /-- R40(d). -/
  queues : s.fcb.reqq.length ≤ s.params.qdepth ∧ s.fcb.txq.length ≤ s.params.txqBytes
  /-- R40(e). -/
  settled : issueEnabled s = false
  /-- R40(g). -/
  incomplete : rxVerdict s = .needMoreData
  /-- R40(g), "hence". -/
  rxLevel : s.fcb.rxbuf.length + 1 ≤ hdrW + s.params.maxPayload + csumW s.fcb.conf.csumAlg
  /-- R40(h). -/
  legal : s.fcb.en = true → s.fcb.conf.Legal
  /-- R35: what REQQ holds are legal descriptors. -/
  descriptors : ∀ d ∈ s.fcb.reqq, d.Legal s.params

/-- `s` with one more CTL response, everything else unchanged. -/
def answered (s : State) (status : CtlStatus) (rdata : Word) : State :=
  { s with port := { s.port with ctlTrace := s.port.ctlTrace ++ [{ status := status, rdata := rdata }] } }

/-- `s` with more completion records emitted (in the output trace and in the output buffer of the CPL
port), everything else unchanged. -/
def withRecords (s : State) (rs : List CplRecord) : State :=
  { s with port := { s.port with
      cplTrace := s.port.cplTrace ++ rs, cplOut := s.port.cplOut ++ rs } }

/-- `s` with the block in the state `f`, the ports and parameters unchanged. -/
def withFcb (s : State) (f : Fcb) : State := { s with fcb := f }

/-- One clock cycle: what the wires carry in it is presented and run (`spec/20_memory.md` R77). -/
def runCycle (c : CycleInputs) (s : State) : Host.Outcome State Fault Refusal :=
  Host.Core.run Sys2Proof.core (cycleEvents c).length (withCycle c s)

/-- Operations one after the other, stopping at the first that does not answer next. -/
def runInstrs : List Instr → State → Host.Outcome State Fault Refusal
  | [], s => .next s
  | i :: is, s =>
    match exec i s with
    | .next t => runInstrs is t
    | .fault e => .fault e
    | .refused r => .refused r

end Sys2Proof.Machine
end

