-- ==== Sys2Proof/Certificates/Slice0/Obligations.lean ====
section
/-! DEFINITION. The statements for the provers, each from the numbered rules of `spec/` its
docstring names. `answered`, `withRecords` and `withFcb` (Safety) are a state with one part changed
and everything else as it was, so an equation with them is its own frame. -/

open Sys2Proof Sys2Proof.Machine

/-! ### Encodings -/

/-- Decode and encode agree on every well-formed operation: no bit of a layout of
`30_encoding.md` (R91, R98, R100, R101, R103) is dropped. -/
def Obligations.DecodeEncodeRoundTrip : Prop :=
  ∀ i : Instr, i.wf = true → decode (encode i) = .ok i

/-- Every 16-bit CTL word decodes, to the row of R98 whose match and mask it meets, or to
CTL_RESERVED if it meets none (R98, R220). -/
def Obligations.EveryCtlWordDecodesByMatchAndMask : Prop :=
  ∀ (cmd : Half) (v : Word),
    decode (.ctl cmd v) = .ok
      (if cmd = 0x0000#16 then .nop
       else if cmd &&& 0xFF00#16 = 0x1000#16 then .csrRead (cmd.extractLsb' 0 8)
       else if cmd &&& 0xFF00#16 = 0x2000#16 then .csrWrite (cmd.extractLsb' 0 8) v
       else if cmd = 0x3000#16 then .linkUp
       else if cmd = 0x4000#16 then .linkDown
       else .ctlReserved (cmd.extractLsb' 12 4) (cmd.extractLsb' 8 4) (cmd.extractLsb' 0 8))

/-- A few words of the opcode table, written from the spec's encodings, decode to their rows. The
byte numbering of the multi-byte rows is the model's reading (notes/assumptions/10.md). -/
def Obligations.TableWordsDecode : Prop :=
  decodeTableWord 16 0x0000 = some .nop
  ∧ decodeTableWord 16 0x1001 = some (.csrRead 0x01#8)
  ∧ decodeTableWord 16 0x2005 = some (.csrWrite 0x05#8 0#32)
  ∧ decodeTableWord 16 0x3000 = some .linkUp
  ∧ decodeTableWord 16 0x4000 = some .linkDown
  ∧ decodeTableWord 16 0x5000 = some (.ctlReserved 5#4 0#4 0#8)
  ∧ decodeTableWord 48 0x000002013112
      = some (.cplTimeout 2#4 0x31#8 0x0102#16 [])
  ∧ decodeTableWord 64 0x0000FFFF0021200E
      = some (.send [0x0E#8, 0x20#8, 0x21#8, 0x00#8, 0xFF#8, 0xFF#8, 0x00#8, 0x00#8])
  ∧ decodeTableWord 40 0x3412200000 = some (.frame .fromPanel 0x20#8 0x1234#16 [] [0x00#8])
  ∧ decodeTableWord 9 0x115 = some (.rxByte 0x15#8)
  ∧ decodeTableWord 8 1 = some .txPop
  ∧ decode (.tick 1#1) = .ok .tick
  ∧ decode (.rst 1#1) = .ok .reset

/-- The bytes of a record decode to the row of its status code (R101, R102). -/
def Obligations.RecordBytesDecodeToTheirRow : Prop :=
  ∀ r : CplRecord, r.payload.length < 65536 → (r.status = .unsolicited → r.tag = 15#4) →
    decode (.cpl (cplBytes r)) = .ok
      (match r.status with
        | .ok => .cplOk r.tag r.ty r.seq r.payload
        | .timeout => .cplTimeout r.tag r.ty r.seq r.payload
        | .connectionLost => .cplConnectionLost r.tag r.ty r.seq r.payload
        | .notConnected => .cplNotConnected r.tag r.ty r.seq r.payload
        | .notConfigured => .cplNotConfigured r.tag r.ty r.seq r.payload
        | .badRequest => .cplBadRequest r.tag r.ty r.seq r.payload
        | .unsolicited => .cplUnsolicited r.ty r.seq r.payload)

/-- A legal descriptor is read back from its bytes (R100, R110, R181). -/
def Obligations.DescriptorBytesRoundTrip : Prop :=
  ∀ (p : Params) (d : Descriptor), p.maxPayload ≤ 65535 → d.Legal p →
    decodeDesc p (descBytes d) = .good d

/-- DECODE_DESC of any byte sequence: it is good exactly when none of the six conditions of R100
breaks it, with the fields R181 names, and a bad one carries the TAG and TYPE of its first two
bytes, 15 and 0 where there are none (R181). -/
def Obligations.DescriptorVerdictByLayout : Prop :=
  ∀ (p : Params) (bs : List Byte),
    let at' := fun i => bs.getD i 0#8
    let plen := (at' 6).toNat * 256 + (at' 7).toNat
    ((∃ d, decodeDesc p bs = .good d) ↔
      8 ≤ bs.length ∧ (at' 0).extractLsb' 4 4 = 0#4 ∧ (at' 0).extractLsb' 0 4 ≠ 15#4
        ∧ at' 3 = 0#8 ∧ plen ≤ p.maxPayload ∧ bs.length = 8 + plen)
    ∧ (∀ d, decodeDesc p bs = .good d →
        d.tag = (at' 0).extractLsb' 0 4 ∧ d.ty = at' 1 ∧ d.expTy = at' 2
          ∧ d.timeout.toNat = (at' 4).toNat * 256 + (at' 5).toNat ∧ d.payload = bs.drop 8)
    ∧ (∀ tag ty, decodeDesc p bs = .bad tag ty →
        tag = (if 1 ≤ bs.length then (at' 0).extractLsb' 0 4 else 15#4)
          ∧ ty = (if 2 ≤ bs.length then at' 1 else 0#8))

/-! ### Cipher -/

/-- `CTRBLK` byte by byte, and its injectivity: distinct triples give distinct blocks (R131). -/
def Obligations.CounterBlockBytesAndInjective : Prop :=
  (∀ (dir : Dir) (seq q : Half),
    blockBytes (ctrblk dir seq q) =
      [match dir with | .toPanel => 0#8 | .fromPanel => 1#8, 0#8, seq.extractLsb' 8 8,
        seq.extractLsb' 0 8, 0#8, 0#8, q.extractLsb' 8 8, q.extractLsb' 0 8])
  ∧ (∀ (d d' : Dir) (seq seq' q q' : Half),
    ctrblk d seq q = ctrblk d' seq' q' → d = d' ∧ seq = seq' ∧ q = q')

/-- `CRYPT` for every keystream function: the length stays, and byte `i` is exclusive-ored with byte
`i mod 8` of the keystream block of index `i div 8` (R134). -/
def Obligations.CryptIsBytewiseExclusiveOr : Prop :=
  ∀ (ks : KeyStream) (key : Block) (dir : Dir) (seq : Half) (data : List Byte),
    (crypt ks key dir seq data).length = data.length
    ∧ ∀ i b, data[i]? = some b →
        (crypt ks key dir seq data)[i]?
          = some (b ^^^ (blockBytes (ks key (ctrblk dir seq (BitVec.ofNat 16 (i / 8))))).getD (i % 8) 0#8)

/-- Encryption and decryption undo each other, for every keystream function (R136). -/
def Obligations.CipherInvolution : Prop :=
  ∀ (ks : KeyStream) (key cb blk : Block) (dir : Dir) (seq : Half) (data : List Byte),
    decBlock ks key cb (encBlock ks key cb blk) = blk
    ∧ encBlock ks key cb (decBlock ks key cb blk) = blk
    ∧ crypt ks key dir seq (crypt ks key dir seq data) = data

/-! ### Frame codec -/

/-- Both checksums as their pseudocode computes them, on natural numbers: the sum of the bytes modulo
256, one byte (R150); the CRC with polynomial 0x1021 from 0xFFFF, bytes and bits most significant
first, two bytes, the high one first (R151). -/
def Obligations.ChecksumsAreSumAndCrc : Prop :=
  ∀ s : List Byte,
    let shift : Nat → Nat := fun c =>
      if 32768 ≤ c then (c * 2 % 65536) ^^^ 0x1021 else c * 2 % 65536
    let crc : Nat := s.foldl (fun c b => shift^[8] (c ^^^ b.toNat * 256)) 0xFFFF
    csum 0#2 s = [BitVec.ofNat 8 ((s.map BitVec.toNat).sum % 256)]
    ∧ csum 1#2 s = [BitVec.ofNat 8 (crc / 256), BitVec.ofNat 8 (crc % 256)]

/-- The layout of a frame ENCODE builds: LEN, TYPE, SEQ, then the payload on the wire, then the
checksum over header and plaintext; `FRAME_LEN(n)` bytes in all (R91, R97, R153). -/
def Obligations.EncodedFrameLayout : Prop :=
  ∀ (ks : KeyStream) (c : ConnConfig) (m : Message) (dir : Dir), m.payload.length ≤ 65535 →
    let f := encodeFrame ks c m dir
    let n := m.payload.length
    (c.csumAlg = 0#2 → f.length = 6 + n) ∧ (c.csumAlg = 1#2 → f.length = 7 + n)
    ∧ ((f.getD 0 0#8).toNat * 256 + (f.getD 1 0#8).toNat = n)
    ∧ f.getD 2 0#8 = m.ty
    ∧ ((f.getD 3 0#8).toNat * 256 + (f.getD 4 0#8).toNat = m.seq.toNat)
    ∧ (c.keyLen = 8#4 → (f.drop 5).take n = crypt ks c.key dir m.seq m.payload)
    ∧ (c.keyLen = 0#4 → (f.drop 5).take n = m.payload)
    ∧ f.drop (5 + n) = csum c.csumAlg (f.take 5 ++ m.payload)

/-- PARSE of an encoded frame gives the message back, and every proper prefix of it needs more data
(R159). -/
def Obligations.CodecRoundTrip : Prop :=
  ∀ (ks : KeyStream) (p : Params) (c : ConnConfig) (m : Message) (dir : Dir),
    p.maxPayload ≤ 65535 → m.payload.length ≤ p.maxPayload →
    parse ks p c (encodeFrame ks c m dir) dir = .frame m (frameLen c m.payload.length)
    ∧ ∀ k < (encodeFrame ks c m dir).length,
        parse ks p c ((encodeFrame ks c m dir).take k) dir = .needMoreData

/-- A frame with exactly one payload byte changed on the wire is always rejected, with either
checksum algorithm (R160). -/
def Obligations.PayloadCorruptionIsDetected : Prop :=
  ∀ (ks : KeyStream) (p : Params) (c : ConnConfig) (m : Message) (dir : Dir) (i : Nat) (b : Byte),
    p.maxPayload ≤ 65535 → m.payload.length ≤ p.maxPayload →
    (c.csumAlg = 0#2 ∨ c.csumAlg = 1#2) →
    5 ≤ i → i < 5 + m.payload.length → (encodeFrame ks c m dir)[i]? ≠ some b →
    parse ks p c ((encodeFrame ks c m dir).set i b) dir
      = .badChecksum (encodeFrame ks c m dir).length

/-- PARSE does not look at bytes beyond the extent of its verdict (R154). -/
def Obligations.ParseIgnoresLaterBytes : Prop :=
  ∀ (ks : KeyStream) (p : Params) (c : ConnConfig) (buf later : List Byte) (dir : Dir),
    parse ks p c buf dir ≠ .needMoreData → parse ks p c (buf ++ later) dir = parse ks p c buf dir

/-! ### The machine: reset, steps, invariant -/

/-- RESET puts every piece of state at its value (R41, R281), from any state; it emits nothing, discards
a descriptor being assembled, and cuts short a record being streamed out (R281). That the records
behind it in the output buffer are lost with it is the model's reading (notes/assumptions/16.md). -/
def Obligations.ResetPutsEveryValue : Prop :=
  ∀ s : State, exec .reset s = .next { s with
    fcb :=
      { en := false
        conf :=
          { keyLen := 0#4, gen := 0#2, matchMode := 0#2, csumAlg := 0#2
            key := { b0 := 0#8, b1 := 0#8, b2 := 0#8, b3 := 0#8
                     b4 := 0#8, b5 := 0#8, b6 := 0#8, b7 := 0#8 }
            reqTimeout := 0#16, toLimit := 0#8 }
        cfgErr := false, cfgErrCause := 0#4, link := false, forceReconnect := false
        seqWrap := false
        cst := .idle, out := { tag := 0#4, ty := 0#8, expTy := 0#8, seq := 0#16 }
        timer := 0#16, consecTo := 0#8, txSeq := 0#16, reqq := [], txq := [], rxbuf := []
        cnt :=
          { tx := 0#32, rxOk := 0#32, csumErr := 0#32, malformed := 0#32, unsol := 0#32
            timeout := 0#32, rxDiscard := 0#32 } }
    port := { s.port with reqPart := [], cplOut := [], cplSent := 0 } }

/-- The invariants of R40 hold after reset. -/
def Obligations.InvHoldsAtReset : Prop := BlockInv State.reset

/-- Every step from a state that meets the invariants of R40 (with R35's bound on descriptors)
gives a state that meets them. -/
def Obligations.StepKeepsInv : Prop :=
  ∀ s t : State, BlockInv s → step s = .next t → BlockInv t

/-- Every operation in every state has a result, and none touches the parameters or the inbox; and
every step answers a next state, whatever is presented (R250: no fault stops the block, every input
in every state has a defined result). The inbox, and that a step takes exactly its first stimulus, are
the model's choice (notes/assumptions/5.md). -/
def Obligations.EveryInstructionAnswersNext : Prop :=
  (∀ (i : Instr) (s : State),
    ∃ t, exec i s = .next t ∧ t.params = s.params ∧ t.port.inbox = s.port.inbox)
  ∧ ∀ s : State, ∃ t, step s = .next t ∧ t.params = s.params ∧ t.port.inbox = s.port.inbox.tail

/-- A step runs the decoded instruction: the first stimulus in the inbox; a descriptor that ends on the
REQ port while `req_ready` is high and none waits there runs as the SEND of all its bytes (R100); and
a word of the table that is presented runs next. Bytes on a wire stream that are no whole frame cross
it all the same. How stimuli are presented is the model's choice (notes/assumptions/5.md,
notes/assumptions/9.md, notes/assumptions/11.md). -/
def Obligations.StepRunsTheDecodedInstruction : Prop :=
  (∀ (s : State) (e : PortEvent) (rest : List PortEvent) (i : Instr),
    s.port.inbox = e :: rest → (∀ item, e ≠ .req item) → decode e = .ok i →
    step s = exec i { s with port := { s.port with inbox := rest } })
  ∧ (∀ (s : State) (item : ReqItem) (rest : List PortEvent),
    s.port.inbox = .req item :: rest → item.last = true → s.port.reqWaiting = [] →
    reqReady s = true →
    step s = exec (.send (s.port.reqPart ++ item.bytes))
      { s with port := { s.port with inbox := rest, reqPart := [] } })
  ∧ (∀ (s : State) (nbits w : Nat) (i : Instr), decodeTableWord nbits w = some i →
    ((∃ bs, i = .send bs) → reqReady s = true ∧ s.port.reqPart = []) →
    step (s.withFetchWord nbits w) = exec i s)
  ∧ (∀ (s : State) (dir : Dir) (bytes : List Byte) (rest : List PortEvent) (err : DecodeError),
    s.port.inbox = .wire dir bytes :: rest → decode (.wire dir bytes) = .error err →
    step s = .next (wireBytes dir bytes { s with port := { s.port with inbox := rest } }))

/-- Back-pressure on the REQ port (R194): bytes presented while `req_ready` is low are held there;
whatever is held, an operation of any other port runs as it would; when the port is sampled, or bytes
are presented on it, and `req_ready` is high, the first bytes held are accepted, SEND taking effect
with the last byte of a descriptor (R100); with nothing to take a step does nothing (R282). In a
cycle with LINK_DOWN the link goes down first, and a held descriptor is then accepted and answered
NOT_CONNECTED (R77, R194). The list of what is held, the order in which it is accepted, and the
moments of sampling are the model's reading (notes/assumptions/9.md); the inbox is the model's
choice (notes/assumptions/5.md). -/
def Obligations.WaitingDescriptorsHoldUpNoOtherPort : Prop :=
  (∀ (s : State) (item : ReqItem) (rest : List PortEvent),
    reqReady s = false → s.port.inbox = .req item :: rest →
    step s = .next { s with port := { s.port with
      inbox := rest, reqWaiting := s.port.reqWaiting ++ [item] } })
  ∧ (∀ (s : State) (item : ReqItem) (held : List ReqItem) (rest : List PortEvent),
    reqReady s = true → s.port.reqWaiting = item :: held →
    (s.port.inbox = .reqSample :: rest ∨ (s.port.inbox = [] ∧ rest = [])) →
    (item.last = true → step s = exec (.send (s.port.reqPart ++ item.bytes))
      { s with port := { s.port with inbox := rest, reqWaiting := held, reqPart := [] } })
    ∧ (item.last = false → step s = .next { s with port := { s.port with
      inbox := rest, reqWaiting := held, reqPart := s.port.reqPart ++ item.bytes } }))
  ∧ (∀ (s : State) (item new : ReqItem) (held : List ReqItem) (rest : List PortEvent),
    reqReady s = true → s.port.reqWaiting = item :: held → s.port.inbox = .req new :: rest →
    (item.last = true → step s = exec (.send (s.port.reqPart ++ item.bytes))
      { s with port := { s.port with
        inbox := rest, reqWaiting := held ++ [new], reqPart := [] } })
    ∧ (item.last = false → step s = .next { s with port := { s.port with
      inbox := rest, reqWaiting := held ++ [new], reqPart := s.port.reqPart ++ item.bytes } }))
  ∧ (∀ (s : State) (held : List ReqItem) (e : PortEvent) (rest : List PortEvent) (i : Instr),
    (∀ item, e ≠ .req item) → decode e = .ok i → s.port.inbox = e :: rest →
    step { s with port := { s.port with reqWaiting := held } }
      = exec i { s with port := { s.port with inbox := rest, reqWaiting := held } })
  ∧ (∀ s : State, s.port.inbox = [] → (s.port.reqWaiting = [] ∨ reqReady s = false) →
    step s = .next s)
  ∧ (∀ (s : State) (bs : List Byte) (d : Descriptor) (v : Word),
    s.fcb.en = true → s.fcb.link = true → s.port.inbox = [] → s.port.reqPart = [] →
    s.port.reqWaiting = [{ bytes := bs, last := true }] → decodeDesc s.params bs = .good d →
    ∀ taken, ∃ t, runCycle { rst := false, ctl := some (0x4000#16, v), rx := none, tick := false
                             req := none, txReady := false, cplTaken := taken } s = .next t
      ∧ t.fcb.link = false ∧ t.port.reqWaiting = []
      ∧ ∃ lost, (∀ r ∈ lost, r.status = .connectionLost)
        ∧ t.port.cplTrace = s.port.cplTrace ++ lost ++
          [{ status := .notConnected, tag := d.tag, ty := d.ty, seq := 0#16, payload := [] }])

/-! ### CTL commands -/

/-- NOP, `ctl_cmd = 0x0000`, answers `(OK, 0)` and changes nothing (R221). ISSUE is not enabled
between operations (R40(e)). -/
def Obligations.NopAnswersOk : Prop :=
  (∀ v : Word, decode (.ctl 0x0000#16 v) = .ok .nop)
  ∧ ∀ s : State, issueEnabled s = false → exec .nop s = .next (answered s .ok 0#32)

/-- A reserved command word, however it is reserved, is CTL_RESERVED, answers `(BAD_OP, 0)` and
changes nothing (R229). -/
def Obligations.ReservedCommandAnswersBadOp : Prop :=
  ∀ (op rsv : BitVec 4) (n : Byte) (v : Word) (s : State),
    (5 ≤ op.toNat ∨ rsv ≠ 0#4 ∨ ((op = 0#4 ∨ op = 3#4 ∨ op = 4#4) ∧ n ≠ 0#8)) →
    issueEnabled s = false →
    decode (.ctl (ctlWord op rsv n) v) = .ok (.ctlReserved op rsv n)
    ∧ exec (.ctlReserved op rsv n) s = .next (answered s .badOp 0#32)

/-- CSR_READ of the registers that hold one value each; of KEY0 and KEY1, which read as 0; and of an
undefined number, which answers `(BAD_CSR, 0)`. No read changes any state (R21, R65, R222). -/
def Obligations.CsrReadAnswersTheRegister : Prop :=
  ∀ s : State, issueEnabled s = false →
    exec (.csrRead 0x00#8) s = .next (answered s .ok (if s.fcb.en then 1#32 else 0#32))
    ∧ exec (.csrRead 0x03#8) s = .next (answered s .ok 0#32)
    ∧ exec (.csrRead 0x04#8) s = .next (answered s .ok 0#32)
    ∧ exec (.csrRead 0x05#8) s = .next (answered s .ok (s.fcb.conf.reqTimeout.setWidth 32))
    ∧ exec (.csrRead 0x06#8) s = .next (answered s .ok (s.fcb.conf.toLimit.setWidth 32))
    ∧ exec (.csrRead 0x07#8) s = .next (answered s .ok (s.fcb.txSeq.setWidth 32))
    ∧ exec (.csrRead 0x08#8) s = .next (answered s .ok (s.fcb.timer.setWidth 32))
    ∧ exec (.csrRead 0x09#8) s = .next (answered s .ok (s.fcb.consecTo.setWidth 32))
    ∧ exec (.csrRead 0x10#8) s = .next (answered s .ok s.fcb.cnt.tx)
    ∧ exec (.csrRead 0x11#8) s = .next (answered s .ok s.fcb.cnt.rxOk)
    ∧ exec (.csrRead 0x12#8) s = .next (answered s .ok s.fcb.cnt.csumErr)
    ∧ exec (.csrRead 0x13#8) s = .next (answered s .ok s.fcb.cnt.malformed)
    ∧ exec (.csrRead 0x14#8) s = .next (answered s .ok s.fcb.cnt.unsol)
    ∧ exec (.csrRead 0x15#8) s = .next (answered s .ok s.fcb.cnt.timeout)
    ∧ exec (.csrRead 0x16#8) s = .next (answered s .ok s.fcb.cnt.rxDiscard)
    ∧ ∀ n : Byte, ((0x0B ≤ n.toNat ∧ n.toNat ≤ 0x0F) ∨ n.toNat = 0x17 ∨ 0x19 ≤ n.toNat) →
        exec (.csrRead n) s = .next (answered s .badCsr 0#32)

/-- CSR_READ of STATUS, field by field (R23); REQQ_LEVEL holds at most QDEPTH, at most 15. -/
def Obligations.StatusReadLayout : Prop :=
  ∀ s : State, issueEnabled s = false → s.fcb.reqq.length ≤ 15 →
    ∃ v : Word, exec (.csrRead 0x01#8) s = .next (answered s .ok v)
      ∧ v.getLsbD 0 = s.fcb.en ∧ v.getLsbD 1 = s.fcb.cfgErr ∧ v.getLsbD 2 = s.fcb.link
      ∧ v.getLsbD 3 = (s.fcb.cst == .wait) ∧ v.getLsbD 4 = s.fcb.forceReconnect
      ∧ v.getLsbD 5 = s.fcb.seqWrap ∧ v.getLsbD 6 = (s.fcb.en && s.fcb.conf.keyLen == 8#4)
      ∧ v.getLsbD 7 = false ∧ v.extractLsb' 8 4 = s.fcb.cfgErrCause
      ∧ (v.extractLsb' 12 4).toNat = s.fcb.reqq.length ∧ v.extractLsb' 16 4 = s.fcb.out.tag
      ∧ v.extractLsb' 20 12 = 0#12

/-- CSR_READ of CFG, OUT and LEVELS, field by field (R24, R31, R33). -/
def Obligations.CfgOutLevelsReadLayout : Prop :=
  ∀ s : State, issueEnabled s = false →
    (∃ v : Word, exec (.csrRead 0x02#8) s = .next (answered s .ok v)
      ∧ v.extractLsb' 0 4 = s.fcb.conf.keyLen ∧ v.extractLsb' 4 2 = s.fcb.conf.gen
      ∧ v.extractLsb' 6 2 = s.fcb.conf.matchMode ∧ v.extractLsb' 8 2 = s.fcb.conf.csumAlg
      ∧ v.extractLsb' 10 22 = 0#22)
    ∧ (∃ v : Word, exec (.csrRead 0x0A#8) s = .next (answered s .ok v)
      ∧ v.extractLsb' 0 16 = s.fcb.out.seq ∧ v.extractLsb' 16 8 = s.fcb.out.ty
      ∧ v.extractLsb' 24 8 = s.fcb.out.expTy)
    ∧ (∃ v : Word, exec (.csrRead 0x18#8) s = .next (answered s .ok v)
      ∧ (v.extractLsb' 0 16).toNat = min s.fcb.txq.length 65535
      ∧ (v.extractLsb' 16 16).toNat = min s.fcb.rxbuf.length 65535)

/-- The key cannot be read back: whatever key the block holds, every CSR_READ answers the same
(R25, R265). -/
def Obligations.KeyCannotBeReadBack : Prop :=
  ∀ (n : Byte) (s : State) (k : Block), issueEnabled s = false →
    let s' := withFcb s { s.fcb with conf := { s.fcb.conf with key := k } }
    ∃ status v, exec (.csrRead n) s = .next (answered s status v)
      ∧ exec (.csrRead n) s' = .next (answered s' status v)

/-- Refused CSR_WRITEs: undefined numbers, read-only registers, the configuration while `EN = 1`,
TX_SEQ while `LINK = 1`. A refused write changes nothing at all (R223, R228). -/
def Obligations.CsrWriteRefusals : Prop :=
  ∀ (n : Byte) (v : Word) (s : State), issueEnabled s = false →
    (((0x0B ≤ n.toNat ∧ n.toNat ≤ 0x0F) ∨ n.toNat = 0x17 ∨ 0x19 ≤ n.toNat) →
      exec (.csrWrite n v) s = .next (answered s .badCsr 0#32))
    ∧ ((n.toNat = 0x01 ∨ (0x08 ≤ n.toNat ∧ n.toNat ≤ 0x0A) ∨ (0x10 ≤ n.toNat ∧ n.toNat ≤ 0x16)
        ∨ n.toNat = 0x18) → exec (.csrWrite n v) s = .next (answered s .readOnly 0#32))
    ∧ (0x02 ≤ n.toNat → n.toNat ≤ 0x06 → s.fcb.en = true →
      exec (.csrWrite n v) s = .next (answered s .locked 0#32))
    ∧ (n.toNat = 0x07 → s.fcb.link = true →
      exec (.csrWrite n v) s = .next (answered s .locked 0#32))

/-- Accepted CSR_WRITEs of the configuration registers while `EN = 0`: the defined fields are
stored unchecked, the other bits are dropped, nothing else changes (R24 to R27, R44, R223). -/
def Obligations.CsrWriteStoresConfiguration : Prop :=
  ∀ (v : Word) (s : State), s.fcb.en = false →
    let conf := s.fcb.conf
    let storing := fun c => Host.Outcome.next (answered (withFcb s { s.fcb with conf := c }) .ok 0#32)
    exec (.csrWrite 0x02#8 v) s = storing { conf with
        keyLen := v.extractLsb' 0 4, gen := v.extractLsb' 4 2
        matchMode := v.extractLsb' 6 2, csumAlg := v.extractLsb' 8 2 }
    ∧ exec (.csrWrite 0x03#8 v) s = storing { conf with key := { conf.key with
        b0 := v.extractLsb' 24 8, b1 := v.extractLsb' 16 8
        b2 := v.extractLsb' 8 8, b3 := v.extractLsb' 0 8 } }
    ∧ exec (.csrWrite 0x04#8 v) s = storing { conf with key := { conf.key with
        b4 := v.extractLsb' 24 8, b5 := v.extractLsb' 16 8
        b6 := v.extractLsb' 8 8, b7 := v.extractLsb' 0 8 } }
    ∧ exec (.csrWrite 0x05#8 v) s = storing { conf with reqTimeout := v.extractLsb' 0 16 }
    ∧ exec (.csrWrite 0x06#8 v) s = storing { conf with toLimit := v.extractLsb' 0 8 }

/-- An accepted CSR_WRITE of TX_SEQ, while `LINK = 0`, stores bits 15:0 and clears SEQ_WRAP (R28,
R223). -/
def Obligations.CsrWriteStoresTxSeq : Prop :=
  ∀ (v : Word) (s : State), s.fcb.link = false →
    exec (.csrWrite 0x07#8 v) s = .next (answered
      (withFcb s { s.fcb with txSeq := v.extractLsb' 0 16, seqWrap := false }) .ok 0#32)

/-- The enable attempt (R224, R108): it passes exactly for a legal configuration; otherwise it
answers CONFIG_ERROR, `EN` stays 0 and the lowest-numbered cause is recorded. A CTRL write that does
not change `EN` has no effect (R22). `EN = 0` implies `LINK = 0` (R40(a)). -/
def Obligations.EnableChecksTheConfiguration : Prop :=
  (∀ (v : Word) (s : State), s.fcb.en = false → s.fcb.link = false → v.getLsbD 0 = true →
    let c := s.fcb.conf
    let badKeyLen := c.keyLen ≠ 0#4 ∧ c.keyLen ≠ 8#4
    let badGen := c.gen ≠ 0#2 ∧ c.gen ≠ 1#2
    let badMatch := c.matchMode = 0#2
    let badCsum := c.csumAlg ≠ 0#2 ∧ c.csumAlg ≠ 1#2
    let badTimeout := c.reqTimeout = 0#16
    let refusing := fun cause : BitVec 4 => Host.Outcome.next (answered
      (withFcb s { s.fcb with cfgErr := true, cfgErrCause := cause }) .configError 0#32)
    (c.Legal → exec (.csrWrite 0x00#8 v) s = .next (answered
      (withFcb s { s.fcb with en := true, cfgErr := false, cfgErrCause := 0#4 }) .ok 0#32))
    ∧ (badKeyLen → exec (.csrWrite 0x00#8 v) s = refusing 1#4)
    ∧ (¬badKeyLen ∧ badGen → exec (.csrWrite 0x00#8 v) s = refusing 2#4)
    ∧ (¬badKeyLen ∧ ¬badGen ∧ badMatch → exec (.csrWrite 0x00#8 v) s = refusing 3#4)
    ∧ (¬badKeyLen ∧ ¬badGen ∧ ¬badMatch ∧ badCsum → exec (.csrWrite 0x00#8 v) s = refusing 4#4)
    ∧ (¬badKeyLen ∧ ¬badGen ∧ ¬badMatch ∧ ¬badCsum ∧ badTimeout →
      exec (.csrWrite 0x00#8 v) s = refusing 5#4))
  ∧ (∀ (v : Word) (s : State), v.getLsbD 0 = s.fcb.en → issueEnabled s = false →
    exec (.csrWrite 0x00#8 v) s = .next (answered s .ok 0#32))

/-- Disable (R225): with the link up, every pending request is failed with CONNECTION_LOST, the
outstanding one first, and the stores are flushed (R190); the configuration, TX_SEQ, SEQ_WRAP, OUT,
the counters and CFG_ERR stay. -/
def Obligations.DisableFailsEveryPendingRequest : Prop :=
  ∀ (v : Word) (s : State), s.fcb.en = true → v.getLsbD 0 = false →
    (s.fcb.link = false → exec (.csrWrite 0x00#8 v) s = .next (answered
      (withFcb s { s.fcb with en := false }) .ok 0#32))
    ∧ (s.fcb.link = true → exec (.csrWrite 0x00#8 v) s = .next (answered (withRecords
      (withFcb s { s.fcb with
        en := false, link := false, reqq := [], txq := [], rxbuf := [], cst := .idle
        timer := 0#16, consecTo := 0#8, forceReconnect := false })
      ((if s.fcb.cst = .wait then
          [{ status := .connectionLost, tag := s.fcb.out.tag, ty := s.fcb.out.ty
             seq := s.fcb.out.seq, payload := [] }] else [])
        ++ s.fcb.reqq.map fun d =>
          { status := .connectionLost, tag := d.tag, ty := d.ty, seq := 0#16, payload := [] }))
      .ok 0#32))

/-- LINK_UP, `ctl_cmd = 0x3000` (R226): NOT_CONFIGURED while `EN = 0`, BAD_STATE while `LINK = 1`,
else `LINK <- 1`. REQQ is empty while `LINK = 0` (R40(b)). -/
def Obligations.LinkUpRaisesTheLink : Prop :=
  (∀ v : Word, decode (.ctl 0x3000#16 v) = .ok .linkUp)
  ∧ ∀ s : State,
    (s.fcb.en = false → exec .linkUp s = .next (answered s .notConfigured 0#32))
    ∧ (s.fcb.en = true → s.fcb.link = true → issueEnabled s = false →
      exec .linkUp s = .next (answered s .badState 0#32))
    ∧ (s.fcb.en = true → s.fcb.link = false → s.fcb.reqq = [] →
      exec .linkUp s = .next (answered (withFcb s { s.fcb with link := true }) .ok 0#32))

/-- LINK_DOWN, `ctl_cmd = 0x4000` (R227): NOT_CONFIGURED while `EN = 0`, nothing to do while
`LINK = 0`, else FAIL_ALL (R190). -/
def Obligations.LinkDownFailsEveryPendingRequest : Prop :=
  (∀ v : Word, decode (.ctl 0x4000#16 v) = .ok .linkDown)
  ∧ ∀ s : State,
    (s.fcb.en = false → exec .linkDown s = .next (answered s .notConfigured 0#32))
    ∧ (s.fcb.en = true → s.fcb.link = false →
      exec .linkDown s = .next (answered s .ok 0#32))
    ∧ (s.fcb.en = true → s.fcb.link = true → exec .linkDown s = .next (answered (withRecords
      (withFcb s { s.fcb with
        link := false, reqq := [], txq := [], rxbuf := [], cst := .idle
        timer := 0#16, consecTo := 0#8, forceReconnect := false })
      ((if s.fcb.cst = .wait then
          [{ status := .connectionLost, tag := s.fcb.out.tag, ty := s.fcb.out.ty
             seq := s.fcb.out.seq, payload := [] }] else [])
        ++ s.fcb.reqq.map fun d =>
          { status := .connectionLost, tag := d.tag, ty := d.ty, seq := 0#16, payload := [] }))
      .ok 0#32))

/-! ### SEND -/

/-- A SEND that is refused: BAD_REQUEST in every state, else NOT_CONFIGURED, else NOT_CONNECTED; each
is one record with SEQ 0 and no payload, and changes no state (R180, R256, R257). -/
def Obligations.SendRefusals : Prop :=
  ∀ (bs : List Byte) (s : State), reqReady s = true →
    (∀ tag ty, decodeDesc s.params bs = .bad tag ty → exec (.send bs) s = .next (withRecords s
      [{ status := .badRequest, tag := tag, ty := ty, seq := 0#16, payload := [] }]))
    ∧ (∀ d, decodeDesc s.params bs = .good d → s.fcb.en = false →
      exec (.send bs) s = .next (withRecords s
        [{ status := .notConfigured, tag := d.tag, ty := d.ty, seq := 0#16, payload := [] }]))
    ∧ (∀ d, decodeDesc s.params bs = .good d → s.fcb.en = true → s.fcb.link = false →
      exec (.send bs) s = .next (withRecords s
        [{ status := .notConnected, tag := d.tag, ty := d.ty, seq := 0#16, payload := [] }]))

/-- A SEND accepted while the lock is held, or while the frame of the head of the queue does not fit
in TXQ, is queued at the tail and changes nothing else (R180, R182, R184). -/
def Obligations.SendQueuesBehindTheLock : Prop :=
  ∀ (bs : List Byte) (d : Descriptor) (s : State), reqReady s = true →
    decodeDesc s.params bs = .good d → s.fcb.en = true → s.fcb.link = true →
    (s.fcb.cst = .wait
      ∨ (s.fcb.reqq = [] ∧
          s.params.txqBytes < s.fcb.txq.length + frameLen s.fcb.conf d.payload.length)
      ∨ (∃ d' q, s.fcb.reqq = d' :: q ∧
          s.params.txqBytes < s.fcb.txq.length + frameLen s.fcb.conf d'.payload.length)) →
    exec (.send bs) s = .next (withFcb s { s.fcb with reqq := s.fcb.reqq ++ [d] })

/-- A SEND accepted while the lock is free, the queue is empty and its frame fits is issued inside the
same operation: frame into TXQ with SEQ = TX_SEQ, OUT, TIMER, WAIT, TX_SEQ + 1, SEQ_WRAP on the wrap,
CNT_TX + 1, and no record (R180, R183). -/
def Obligations.SendIssuesAtOnce : Prop :=
  ∀ (bs : List Byte) (d : Descriptor) (s : State), reqReady s = true →
    decodeDesc s.params bs = .good d → s.fcb.en = true → s.fcb.link = true → s.fcb.cst = .idle →
    s.fcb.reqq = [] →
    s.fcb.txq.length + frameLen s.fcb.conf d.payload.length ≤ s.params.txqBytes →
    exec (.send bs) s = .next (withFcb s { s.fcb with
      txq := s.fcb.txq ++ encodeFrame Config.ks s.fcb.conf
        { ty := d.ty, seq := s.fcb.txSeq, payload := d.payload } .toPanel
      out := { tag := d.tag, ty := d.ty, expTy := d.expTy, seq := s.fcb.txSeq }
      timer := if d.timeout = 0#16 then s.fcb.conf.reqTimeout else d.timeout
      cst := .wait
      txSeq := s.fcb.txSeq + 1#16
      seqWrap := if s.fcb.txSeq = 0xFFFF#16 then true else s.fcb.seqWrap
      cnt := { s.fcb.cnt with tx := s.fcb.cnt.tx + 1#32 } })

/-- Back-pressure (R194): SEND is not enabled exactly while `LINK = 1` and REQQ is full, and any SEND
is then held on the REQ port, without effect on the block (where it is held is the model's choice,
notes/assumptions/9.md). -/
def Obligations.SendWaitsWhileTheQueueIsFull : Prop :=
  ∀ s : State,
    (reqReady s = false ↔ s.fcb.link = true ∧ s.fcb.reqq.length = s.params.qdepth)
    ∧ ∀ bs : List Byte, reqReady s = false → exec (.send bs) s = .next { s with port := { s.port with
      reqWaiting := s.port.reqWaiting ++ [{ bytes := bs, last := true }] } }

/-! ### RX_BYTE -/

/-- A byte received while `EN = 0` or `LINK = 0` is dropped and counted; nothing else changes (R155,
R32). -/
def Obligations.RxByteOutsideAConnectionIsDiscarded : Prop :=
  ∀ (b : Byte) (s : State), (s.fcb.en = false ∨ s.fcb.link = false) →
    exec (.rxByte b) s = .next (withFcb s { s.fcb with
      cnt := { s.fcb.cnt with rxDiscard := s.fcb.cnt.rxDiscard + 1#32 } })

/-- A byte that leaves the frame incomplete is only appended to RXBUF (R155, R156). -/
def Obligations.RxByteOfAPartialFrameIsBuffered : Prop :=
  ∀ (b : Byte) (s : State), BlockInv s → s.fcb.en = true → s.fcb.link = true →
    parse Config.ks s.params s.fcb.conf (s.fcb.rxbuf ++ [b]) .fromPanel = .needMoreData →
    exec (.rxByte b) s = .next (withFcb s { s.fcb with rxbuf := s.fcb.rxbuf ++ [b] })

/-- The last byte of a frame with a bad checksum: the frame leaves RXBUF whole, CNT_CSUM_ERR counts
it, and nothing else changes (R156, R157, R252). -/
def Obligations.BadChecksumDropsTheFrame : Prop :=
  ∀ (b : Byte) (s : State) (n : Nat), BlockInv s → s.fcb.en = true → s.fcb.link = true →
    parse Config.ks s.params s.fcb.conf (s.fcb.rxbuf ++ [b]) .fromPanel = .badChecksum n →
    exec (.rxByte b) s = .next (withFcb s { s.fcb with
      rxbuf := [], cnt := { s.fcb.cnt with csumErr := s.fcb.cnt.csumErr + 1#32 } })

/-- The fifth byte of a header whose LEN exceeds MAX_PAYLOAD: exactly the first byte leaves RXBUF,
CNT_MALFORMED counts it, the other four stay, and nothing else changes (R158, R253). -/
def Obligations.BadLengthDropsOneByte : Prop :=
  ∀ (l1 l0 b2 b3 b4 : Byte) (s : State), BlockInv s → s.fcb.en = true → s.fcb.link = true →
    s.fcb.rxbuf = [l1, l0, b2, b3] → s.params.maxPayload < l1.toNat * 256 + l0.toNat →
    exec (.rxByte b4) s = .next (withFcb s { s.fcb with
      rxbuf := [l0, b2, b3, b4]
      cnt := { s.fcb.cnt with malformed := s.fcb.cnt.malformed + 1#32 } })

/-- The last byte of a valid frame that answers the outstanding request, with nothing queued: one OK
record with the received TYPE, SEQ and payload and the request's TAG; the lock, the timer and the
consecutive count are cleared; FORCE_RECONNECT stays (R156, R185, R186). -/
def Obligations.MatchingResponseCompletesTheExchange : Prop :=
  ∀ (b : Byte) (s : State) (m : Message) (n : Nat), BlockInv s → s.fcb.en = true → s.fcb.link = true →
    parse Config.ks s.params s.fcb.conf (s.fcb.rxbuf ++ [b]) .fromPanel = .frame m n →
    s.fcb.cst = .wait → s.fcb.txq = [] →
    (s.fcb.conf.matchMode.getLsbD 0 = true → m.ty = s.fcb.out.expTy) →
    (s.fcb.conf.matchMode.getLsbD 1 = true → m.seq = s.fcb.out.seq) →
    s.fcb.reqq = [] →
    exec (.rxByte b) s = .next (withRecords (withFcb s { s.fcb with
        rxbuf := [], cst := .idle, timer := 0#16, consecTo := 0#8
        cnt := { s.fcb.cnt with rxOk := s.fcb.cnt.rxOk + 1#32 } })
      [{ status := .ok, tag := s.fcb.out.tag, ty := m.ty, seq := m.seq, payload := m.payload }])

/-- The same with a request queued: the operation that releases the lock issues the head of REQQ,
which always fits since TXQ is empty (R182 to R184, R70). -/
def Obligations.MatchingResponseIssuesTheNextRequest : Prop :=
  ∀ (b : Byte) (s : State) (m : Message) (n : Nat) (d : Descriptor) (rest : List Descriptor),
    BlockInv s → s.fcb.en = true → s.fcb.link = true →
    parse Config.ks s.params s.fcb.conf (s.fcb.rxbuf ++ [b]) .fromPanel = .frame m n →
    s.fcb.cst = .wait → s.fcb.txq = [] →
    (s.fcb.conf.matchMode.getLsbD 0 = true → m.ty = s.fcb.out.expTy) →
    (s.fcb.conf.matchMode.getLsbD 1 = true → m.seq = s.fcb.out.seq) →
    s.fcb.reqq = d :: rest →
    exec (.rxByte b) s = .next (withRecords (withFcb s { s.fcb with
        rxbuf := [], consecTo := 0#8, reqq := rest
        txq := encodeFrame Config.ks s.fcb.conf
          { ty := d.ty, seq := s.fcb.txSeq, payload := d.payload } .toPanel
        out := { tag := d.tag, ty := d.ty, expTy := d.expTy, seq := s.fcb.txSeq }
        timer := if d.timeout = 0#16 then s.fcb.conf.reqTimeout else d.timeout
        txSeq := s.fcb.txSeq + 1#16
        seqWrap := if s.fcb.txSeq = 0xFFFF#16 then true else s.fcb.seqWrap
        cnt := { s.fcb.cnt with rxOk := s.fcb.cnt.rxOk + 1#32, tx := s.fcb.cnt.tx + 1#32 } })
      [{ status := .ok, tag := s.fcb.out.tag, ty := m.ty, seq := m.seq, payload := m.payload }])

/-- The last byte of a valid frame that answers nothing (no exchange, request bytes still in TXQ, or
no match): one UNSOLICITED record with TAG 15, CNT_UNSOL + 1, and the exchange and its timer stay as
they are (R69, R185, R186). -/
def Obligations.OtherValidFrameIsUnsolicited : Prop :=
  ∀ (b : Byte) (s : State) (m : Message) (n : Nat), BlockInv s → s.fcb.en = true → s.fcb.link = true →
    parse Config.ks s.params s.fcb.conf (s.fcb.rxbuf ++ [b]) .fromPanel = .frame m n →
    (s.fcb.cst = .idle ∨ s.fcb.txq ≠ []
      ∨ (s.fcb.conf.matchMode.getLsbD 0 = true ∧ m.ty ≠ s.fcb.out.expTy)
      ∨ (s.fcb.conf.matchMode.getLsbD 1 = true ∧ m.seq ≠ s.fcb.out.seq)) →
    exec (.rxByte b) s = .next (withRecords (withFcb s { s.fcb with
        rxbuf := []
        cnt := { s.fcb.cnt with rxOk := s.fcb.cnt.rxOk + 1#32, unsol := s.fcb.cnt.unsol + 1#32 } })
      [{ status := .unsolicited, tag := 15#4, ty := m.ty, seq := m.seq, payload := m.payload }])

/-! ### TX_POP -/

/-- TX_POP hands over the head of TXQ and changes nothing else while no request can be issued (the
lock held, nothing queued, or still no room); with TXQ empty it is not enabled and nothing happens
(R161, R103). -/
def Obligations.TxPopHandsOverTheHead : Prop :=
  (∀ (b : Byte) (rest : List Byte) (s : State), s.fcb.txq = b :: rest →
    (s.fcb.cst = .wait ∨ s.fcb.reqq = [] ∨ ∃ d q, s.fcb.reqq = d :: q ∧
      s.params.txqBytes < rest.length + frameLen s.fcb.conf d.payload.length) →
    exec .txPop s = .next
      { s with
        fcb := { s.fcb with txq := rest }
        port := { s.port with txTrace := s.port.txTrace ++ [b] } })
  ∧ (∀ s : State, s.fcb.txq = [] → exec .txPop s = .next s)

/-- The TX_POP that makes room for the head of REQQ while the lock is free issues it in the same
operation (R161, R182 to R184). -/
def Obligations.TxPopIssuesWhenTheFrameFits : Prop :=
  ∀ (b : Byte) (rest : List Byte) (d : Descriptor) (q : List Descriptor) (s : State),
    s.fcb.en = true → s.fcb.link = true → s.fcb.cst = .idle →
    s.fcb.txq = b :: rest → s.fcb.reqq = d :: q →
    rest.length + frameLen s.fcb.conf d.payload.length ≤ s.params.txqBytes →
    exec .txPop s = .next
      { s with
        fcb := { s.fcb with
          reqq := q
          txq := rest ++ encodeFrame Config.ks s.fcb.conf
            { ty := d.ty, seq := s.fcb.txSeq, payload := d.payload } .toPanel
          out := { tag := d.tag, ty := d.ty, expTy := d.expTy, seq := s.fcb.txSeq }
          timer := if d.timeout = 0#16 then s.fcb.conf.reqTimeout else d.timeout
          cst := .wait
          txSeq := s.fcb.txSeq + 1#16
          seqWrap := if s.fcb.txSeq = 0xFFFF#16 then true else s.fcb.seqWrap
          cnt := { s.fcb.cnt with tx := s.fcb.cnt.tx + 1#32 } }
        port := { s.port with txTrace := s.port.txTrace ++ [b] } }

/-! ### TICK -/

/-- A TICK changes nothing while no exchange is outstanding, and takes 1 from a TIMER above 1 while
one is (R187). -/
def Obligations.TickCountsDown : Prop :=
  ∀ s : State,
    (s.fcb.cst = .idle → issueEnabled s = false → exec .tick s = .next s)
    ∧ (s.fcb.cst = .wait → 1 < s.fcb.timer.toNat →
      exec .tick s = .next (withFcb s { s.fcb with timer := s.fcb.timer - 1#16 }))

/-- The TICK that brings TIMER to 0 while no request can be issued behind it (nothing queued, or the
frame of the head of the queue does not fit behind the unsent bytes): one TIMEOUT record for the
outstanding request, CNT_TIMEOUT + 1, CONSEC_TO + 1 saturating at 255, FORCE_RECONNECT set when the
count reaches a TO_LIMIT that is not 0, the lock released, and nothing else (R182, R184, R187 to
R189, R254). -/
def Obligations.TickTimesOutTheExchange : Prop :=
  ∀ s : State, s.fcb.cst = .wait → s.fcb.timer = 1#16 →
    (s.fcb.reqq = [] ∨ ∃ d q, s.fcb.reqq = d :: q ∧
      s.params.txqBytes < s.fcb.txq.length + frameLen s.fcb.conf d.payload.length) →
    exec .tick s =
      let n := if s.fcb.consecTo = 255#8 then 255#8 else s.fcb.consecTo + 1#8
      .next (withRecords (withFcb s { s.fcb with
        timer := 0#16, cst := .idle, consecTo := n
        forceReconnect :=
          if s.fcb.conf.toLimit ≠ 0#8 ∧ s.fcb.conf.toLimit.toNat ≤ n.toNat then true
          else s.fcb.forceReconnect
        cnt := { s.fcb.cnt with timeout := s.fcb.cnt.timeout + 1#32 } })
      [{ status := .timeout, tag := s.fcb.out.tag, ty := s.fcb.out.ty, seq := s.fcb.out.seq
         payload := [] }])

/-- The TICK that times an exchange out issues the head of REQQ in the same operation if its frame
fits behind the unsent bytes, which stay in TXQ (R188, R184, R294). -/
def Obligations.TimeoutIssuesTheNextRequest : Prop :=
  ∀ (s : State) (d : Descriptor) (rest : List Descriptor), s.fcb.en = true → s.fcb.link = true →
    s.fcb.cst = .wait → s.fcb.timer = 1#16 → s.fcb.reqq = d :: rest →
    s.fcb.txq.length + frameLen s.fcb.conf d.payload.length ≤ s.params.txqBytes →
    exec .tick s =
      let n := if s.fcb.consecTo = 255#8 then 255#8 else s.fcb.consecTo + 1#8
      .next (withRecords (withFcb s { s.fcb with
        reqq := rest
        txq := s.fcb.txq ++ encodeFrame Config.ks s.fcb.conf
          { ty := d.ty, seq := s.fcb.txSeq, payload := d.payload } .toPanel
        out := { tag := d.tag, ty := d.ty, expTy := d.expTy, seq := s.fcb.txSeq }
        timer := if d.timeout = 0#16 then s.fcb.conf.reqTimeout else d.timeout
        txSeq := s.fcb.txSeq + 1#16
        seqWrap := if s.fcb.txSeq = 0xFFFF#16 then true else s.fcb.seqWrap
        consecTo := n
        forceReconnect :=
          if s.fcb.conf.toLimit ≠ 0#8 ∧ s.fcb.conf.toLimit.toNat ≤ n.toNat then true
          else s.fcb.forceReconnect
        cnt := { s.fcb.cnt with
          timeout := s.fcb.cnt.timeout + 1#32, tx := s.fcb.cnt.tx + 1#32 } })
      [{ status := .timeout, tag := s.fcb.out.tag, ty := s.fcb.out.ty, seq := s.fcb.out.seq
         payload := [] }])

/-! ### FRAME -/

/-- A whole frame from the panel while `EN = 0` or `LINK = 0`: every byte is dropped and counted (R155,
R91). That FRAME is one RX_BYTE per byte is the model's reading (notes/assumptions/8.md). -/
def Obligations.FrameOutsideAConnectionIsDiscarded : Prop :=
  ∀ (ty : Byte) (seq : Half) (body cs : List Byte) (s : State),
    (s.fcb.en = false ∨ s.fcb.link = false) →
    exec (.frame .fromPanel ty seq body cs) s = .next (withFcb s { s.fcb with
      cnt := { s.fcb.cnt with
        rxDiscard := s.fcb.cnt.rxDiscard + BitVec.ofNat 32 (5 + body.length + cs.length) } })

/-- End to end: a frame the panel builds by ENCODE with `dir = 1`, received whole at a frame boundary,
is parsed, counted once in CNT_RX_OK and delivered once, as OK if it answers the outstanding request
and as UNSOLICITED if not; RXBUF ends empty (R154 to R156, R186). That FRAME is one RX_BYTE per byte
is the model's reading (notes/assumptions/8.md). -/
def Obligations.EncodedFrameIsReceivedAndDelivered : Prop :=
  ∀ (m : Message) (s : State), BlockInv s → s.fcb.en = true → s.fcb.link = true → s.fcb.rxbuf = [] →
    m.payload.length ≤ s.params.maxPayload →
    let c := s.fcb.conf
    let hdr := frameHeader m.payload.length m.ty m.seq
    let answer := s.fcb.cst = .wait ∧ s.fcb.txq = []
      ∧ (c.matchMode.getLsbD 0 = true → m.ty = s.fcb.out.expTy)
      ∧ (c.matchMode.getLsbD 1 = true → m.seq = s.fcb.out.seq)
    ∃ t, exec (.frame .fromPanel m.ty m.seq (cryptPayload Config.ks c .fromPanel m.seq m.payload)
          (csum c.csumAlg (hdr ++ m.payload))) s = .next t
      ∧ t.fcb.rxbuf = []
      ∧ t.fcb.cnt.rxOk = s.fcb.cnt.rxOk + 1#32
      ∧ t.fcb.cnt.csumErr = s.fcb.cnt.csumErr ∧ t.fcb.cnt.malformed = s.fcb.cnt.malformed
      ∧ t.fcb.conf = s.fcb.conf ∧ t.fcb.en = s.fcb.en ∧ t.fcb.link = s.fcb.link
      ∧ (answer → t.fcb.cnt.unsol = s.fcb.cnt.unsol
          ∧ t.port.cplTrace = s.port.cplTrace ++
            [{ status := .ok, tag := s.fcb.out.tag, ty := m.ty, seq := m.seq, payload := m.payload }])
      ∧ (¬answer → t.fcb.cnt.unsol = s.fcb.cnt.unsol + 1#32
          ∧ t.fcb.cst = s.fcb.cst ∧ t.fcb.timer = s.fcb.timer ∧ t.fcb.out = s.fcb.out
          ∧ t.port.cplTrace = s.port.cplTrace ++
            [{ status := .unsolicited, tag := 15#4, ty := m.ty, seq := m.seq, payload := m.payload }])

/-- A whole frame to the panel: if it stands at the head of TXQ its bytes are handed over in order,
and TXQ keeps what is behind it, ahead of whatever is issued meanwhile; if it does not, nothing
happens (R161, R67; the model's reading, notes/assumptions/8.md). -/
def Obligations.FrameToThePanelIsHandedOver : Prop :=
  ∀ (ty : Byte) (seq : Half) (body cs : List Byte) (s : State),
    (∀ rest, s.fcb.txq = frameBytes ty seq body cs ++ rest →
      ∃ t more, exec (.frame .toPanel ty seq body cs) s = .next t
        ∧ t.port.txTrace = s.port.txTrace ++ frameBytes ty seq body cs
        ∧ t.fcb.txq = rest ++ more
        ∧ t.fcb.conf = s.fcb.conf ∧ t.fcb.rxbuf = s.fcb.rxbuf
        ∧ t.port.cplTrace = s.port.cplTrace)
    ∧ ((∀ rest, s.fcb.txq ≠ frameBytes ty seq body cs ++ rest) →
      exec (.frame .toPanel ty seq body cs) s = .next s)

/-! ### CPL records -/

/-- A record crosses the CPL port, once and in order of emission, as the row of its status code, and
leaves the block as it is; a record that is not the first in the output buffer does not cross (R71,
R101, R102; the model's reading, notes/assumptions/7.md). It is streamed as its bytes, `cpl_last`
on the final one and no other, and as many cycles of the CPL port as it has bytes stream it whole
(R101): the host gets, in order, the bytes it takes in the cycle they are offered, and loses the
others (R289). The output buffer and its cycles are the model's reading (notes/assumptions/16.md). -/
def Obligations.RecordsCrossInOrder : Prop :=
  (∀ (tag : BitVec 4) (ty : Byte) (seq : Half) (payload : List Byte) (s : State)
      (rest : List CplRecord),
    let crossing := fun (st : CplStatus) (tg : BitVec 4) (i : Instr) =>
      let r : CplRecord := { status := st, tag := tg, ty := ty, seq := seq, payload := payload }
      (s.port.cplOut = r :: rest → exec i s = .next { s with port := { s.port with
          cplOut := rest, cplSent := 0
          cplStream := s.port.cplStream ++ (cplLanes r).drop s.port.cplSent } })
      ∧ (s.port.cplOut.head? ≠ some r → exec i s = .next s)
    crossing .ok tag (.cplOk tag ty seq payload)
    ∧ crossing .timeout tag (.cplTimeout tag ty seq payload)
    ∧ crossing .connectionLost tag (.cplConnectionLost tag ty seq payload)
    ∧ crossing .notConnected tag (.cplNotConnected tag ty seq payload)
    ∧ crossing .notConfigured tag (.cplNotConfigured tag ty seq payload)
    ∧ crossing .badRequest tag (.cplBadRequest tag ty seq payload)
    ∧ crossing .unsolicited 15#4 (.cplUnsolicited ty seq payload))
  ∧ ∀ r : CplRecord,
    (cplLanes r).map (·.data) = cplBytes r
    ∧ (cplLanes r).map (·.last) = List.replicate (5 + r.payload.length) false ++ [true]
    ∧ ∀ (s : State) (rest : List CplRecord) (taken : List Bool), s.port.cplOut = r :: rest →
      s.port.cplSent = 0 → taken.length = 6 + r.payload.length →
      taken.foldl (fun t hostTakes => streamByte hostTakes t) s = { s with port := { s.port with
        cplOut := rest
        cplStream := s.port.cplStream
          ++ (((cplLanes r).zip taken).filter (·.2)).map (·.1) } }

/-! ### Whole-machine rules -/

/-- Mutual exclusion (R191, R74): if an operation issues a request while an exchange is outstanding,
that exchange has ended in the same operation, with its own OK or TIMEOUT record. -/
def Obligations.NoIssueWhileTheLockIsHeld : Prop :=
  ∀ (i : Instr) (s t : State), i ≠ .reset → exec i s = .next t → s.fcb.cst = .wait →
    t.fcb.cnt.tx ≠ s.fcb.cnt.tx →
    ∃ r rs, t.port.cplTrace = s.port.cplTrace ++ rs ∧ r ∈ rs ∧ r.tag = s.fcb.out.tag
      ∧ (r.status = .ok ∨ r.status = .timeout)

/-- The configuration is immutable while the block is enabled: no operation that leaves `EN = 1`
changes CFG, the key, REQ_TIMEOUT or TO_LIMIT (R72, R228). -/
def Obligations.ConfigurationIsImmutableWhileEnabled : Prop :=
  ∀ (i : Instr) (s t : State), exec i s = .next t → s.fcb.en = true → t.fcb.en = true →
    t.fcb.conf = s.fcb.conf

/-- FORCE_RECONNECT falls only by LINK_DOWN, disable or RESET; SEQ_WRAP only by a CSR_WRITE of TX_SEQ
or RESET (R42, R189). -/
def Obligations.StickyFlagsFallOnlyAsSaid : Prop :=
  ∀ (i : Instr) (s t : State), exec i s = .next t →
    (s.fcb.forceReconnect = true → t.fcb.forceReconnect = false →
      i = .linkDown ∨ i = .reset ∨ ∃ v : Word, i = .csrWrite 0x00#8 v ∧ v.getLsbD 0 = false)
    ∧ (s.fcb.seqWrap = true → t.fcb.seqWrap = false →
      i = .reset ∨ ∃ v : Word, i = .csrWrite 0x07#8 v)

/-- Transmit and completion order (R67, R71): what has been output stays output, in its order (a RESET
that cuts a record short takes back no byte), and,
unless the link drops or RESET flushes, the bytes in TXQ keep their order behind the bytes handed
over and ahead of everything issued later. The output traces are the model's
(notes/assumptions/6.md). -/
def Obligations.OutputsKeepTheirOrder : Prop :=
  ∀ (i : Instr) (s t : State), exec i s = .next t →
    s.port.txTrace <+: t.port.txTrace ∧ s.port.cplTrace <+: t.port.cplTrace
    ∧ s.port.ctlTrace <+: t.port.ctlTrace ∧ s.port.cplStream <+: t.port.cplStream
    ∧ ((t.fcb.link = true ∨ s.fcb.link = false) → i ≠ .reset →
      (s.port.txTrace ++ s.fcb.txq) <+: (t.port.txTrace ++ t.fcb.txq))

/-- Guaranteed release, bounded (R192, R187, R188): an outstanding exchange that gets no response ends
after exactly TIMER TICKs. The ones before the last only count TIMER down; the last emits its
TIMEOUT record, counts it, and leaves the lock free, or held by the head of REQQ if its frame fits
and it is issued (R183, R184). -/
def Obligations.TicksEndTheExchange : Prop :=
  ∀ s : State, s.fcb.cst = .wait → s.fcb.timer ≠ 0#16 →
    let fits := fun d : Descriptor => s.fcb.en = true ∧ s.fcb.link = true
      ∧ s.fcb.txq.length + frameLen s.fcb.conf d.payload.length ≤ s.params.txqBytes
    (∀ k < s.fcb.timer.toNat, runInstrs (List.replicate k .tick) s
      = .next (withFcb s { s.fcb with timer := s.fcb.timer - BitVec.ofNat 16 k }))
    ∧ ∃ t, runInstrs (List.replicate s.fcb.timer.toNat .tick) s = .next t
      ∧ t.port.cplTrace = s.port.cplTrace ++
        [{ status := .timeout, tag := s.fcb.out.tag, ty := s.fcb.out.ty, seq := s.fcb.out.seq
           payload := [] }]
      ∧ t.fcb.cnt.timeout = s.fcb.cnt.timeout + 1#32
      ∧ ((∀ d q, s.fcb.reqq = d :: q → ¬fits d) →
        t.fcb.cst = .idle ∧ t.fcb.timer = 0#16 ∧ t.fcb.reqq = s.fcb.reqq ∧ t.fcb.txq = s.fcb.txq
        ∧ t.fcb.out = s.fcb.out ∧ t.fcb.cnt.tx = s.fcb.cnt.tx)
      ∧ (∀ d q, s.fcb.reqq = d :: q → fits d →
        t.fcb.cst = .wait ∧ t.fcb.reqq = q
        ∧ t.fcb.timer = (if d.timeout = 0#16 then s.fcb.conf.reqTimeout else d.timeout)
        ∧ t.fcb.out = { tag := d.tag, ty := d.ty, expTy := d.expTy, seq := s.fcb.txSeq }
        ∧ t.fcb.cnt.tx = s.fcb.cnt.tx + 1#32)

/-- One clock cycle (R77, R280): whatever subset of the inputs is present, the operations of the cycle
are those present (the REQ port being sampled in every cycle), in the order CTL, RX_BYTE, TICK,
SEND, TX_POP. In a cycle in which `rst` is high RESET alone takes effect, and `rx_ready`,
`req_ready`, `tx_valid` and `cpl_valid` are low and no CTL response is valid; in any other
`rx_ready` is high, `tx_valid` is high iff TXQ is not empty, with the head of TXQ as `tx_data`
(R103), and `req_ready` is low iff `LINK = 1` and REQQ is full (R100); `force_reconnect` is
FORCE_RECONNECT in either (R269). That a cycle is a list of operations, one function of its inputs, is
the model's reading (notes/assumptions/15.md), and so is that the REQ port is sampled in every cycle
(notes/assumptions/9.md). That the CPL port offers a byte in every cycle, before the operations, and
`cpl_valid` is high while its buffer is not empty, is the model's choice (notes/assumptions/16.md). -/
def Obligations.SameCycleOrder : Prop :=
  let place : PortEvent → Nat := fun e =>
    match e with
    | .rst _ => 1
    | .ctl _ _ => 2
    | .rx _ => 3
    | .tick _ => 4
    | .req _ | .reqSample => 5
    | .txReady _ => 6
    | .cpl _ | .cplByte _ | .wire _ _ => 0
  (∀ c : CycleInputs, c.rst = false →
    (cycleEvents c).Pairwise (fun a b => place a < place b)
    ∧ ∀ e, e ∈ cycleEvents c ↔
      e = .cplByte c.cplTaken
      ∨ (∃ cmd v, c.ctl = some (cmd, v) ∧ e = .ctl cmd v)
      ∨ (∃ b, c.rx = some b ∧ e = .rx (1#1 ++ b))
      ∨ (c.tick = true ∧ e = .tick 1#1)
      ∨ (∃ item, c.req = some item ∧ e = .req item)
      ∨ (c.req = none ∧ e = .reqSample)
      ∨ (c.txReady = true ∧ e = .txReady 1#1))
  ∧ (∀ c : CycleInputs, c.rst = true → cycleEvents c = [.rst 1#1])
  ∧ ∀ (ctlValid : Bool) (s : State),
    portLevels true ctlValid s =
      { rxReady := false, reqReady := false, txValid := false, cplValid := false, ctlValid := false
        forceReconnect := s.fcb.forceReconnect }
    ∧ (portLevels false ctlValid s).rxReady = true
    ∧ ((portLevels false ctlValid s).txValid = true ↔ s.fcb.txq ≠ [])
    ∧ ((portLevels false ctlValid s).reqReady = false ↔
      s.fcb.link = true ∧ s.fcb.reqq.length = s.params.qdepth)
    ∧ (portLevels false ctlValid s).ctlValid = ctlValid
    ∧ (portLevels false ctlValid s).forceReconnect = s.fcb.forceReconnect
    ∧ (∀ (b : Byte) (rest : List Byte), s.fcb.txq = b :: rest → txData s = some b)
    ∧ ((portLevels false ctlValid s).cplValid = true ↔ s.port.cplOut ≠ [])

/-- A response whose last byte arrives in the cycle in which the timer would expire completes the
exchange with OK, not TIMEOUT (R77); what the CPL port had to offer when the cycle began is offered in
it. How a cycle is presented and run is the model's reading
(notes/assumptions/5.md, notes/assumptions/15.md, notes/assumptions/16.md). -/
def Obligations.ResponseWinsOverTimeoutInOneCycle : Prop :=
  ∀ (b : Byte) (s : State) (m : Message) (n : Nat) (taken : Bool), BlockInv s → s.fcb.en = true →
    s.fcb.link = true → s.port.inbox = [] → s.port.reqWaiting = [] →
    parse Config.ks s.params s.fcb.conf (s.fcb.rxbuf ++ [b]) .fromPanel = .frame m n →
    s.fcb.cst = .wait → s.fcb.timer = 1#16 → s.fcb.txq = [] → s.fcb.reqq = [] →
    (s.fcb.conf.matchMode.getLsbD 0 = true → m.ty = s.fcb.out.expTy) →
    (s.fcb.conf.matchMode.getLsbD 1 = true → m.seq = s.fcb.out.seq) →
    runCycle { rst := false, ctl := none, rx := some b, tick := true, req := none, txReady := false
               cplTaken := taken } s
      = .next (withRecords (withFcb (streamByte taken s) { s.fcb with
          rxbuf := [], cst := .idle, timer := 0#16, consecTo := 0#8
          cnt := { s.fcb.cnt with rxOk := s.fcb.cnt.rxOk + 1#32 } })
        [{ status := .ok, tag := s.fcb.out.tag, ty := m.ty, seq := m.seq, payload := m.payload }])
end

