-- ==== Sys2Proof/Laws/Codec.lean ====
section
/-! SUPPORT. What the pure functions of the cipher and the frame codec do, once each. -/

namespace Sys2Proof.Machine

@[simp] theorem cryptFrom_length (ks : KeyStream) (key : Block) (dir : Dir) (seq : Half) (i : Nat)
    (data : List Byte) : (cryptFrom ks key dir seq i data).length = data.length := by
  induction data generalizing i with
  | nil => rfl
  | cons b bs ih => simp [cryptFrom, ih]

@[simp] theorem crypt_length (ks : KeyStream) (key : Block) (dir : Dir) (seq : Half)
    (data : List Byte) : (crypt ks key dir seq data).length = data.length :=
  cryptFrom_length ks key dir seq 0 data

@[simp] theorem cryptPayload_length (ks : KeyStream) (c : ConnConfig) (dir : Dir) (seq : Half)
    (data : List Byte) : (cryptPayload ks c dir seq data).length = data.length := by
  unfold cryptPayload; split <;> simp

@[simp] theorem frameHeader_length (n : Nat) (ty : Byte) (seq : Half) :
    (frameHeader n ty seq).length = 5 := rfl

@[simp] theorem csum_length (alg : BitVec 2) (s : List Byte) : (csum alg s).length = csumW alg := by
  unfold csum csumW
  split
  · rfl
  · split
    · rfl
    · dsimp only; split <;> rfl

theorem csumW_bounds (alg : BitVec 2) : 1 ≤ csumW alg ∧ csumW alg ≤ 2 := by
  unfold csumW; repeat' split
  all_goals omega

theorem be16_hi8_lo8 (v : Half) : be16 (hi8 v) (lo8 v) = v := by
  apply BitVec.eq_of_getElem_eq
  intro i hi
  simp only [be16, hi8, lo8, ← BitVec.getLsbD_eq_getElem, BitVec.getLsbD_append,
    BitVec.getLsbD_extractLsb']
  split
  · simp_all
  · have : i - 8 < 8 := by omega
    have : 8 + (i - 8) = i := by omega
    simp_all

/-- Every verdict but `needMoreData` disposes of at least one byte (R154). -/
theorem parse_needMoreData_of_short (ks : KeyStream) (p : Params) (c : ConnConfig) (buf : List Byte)
    (dir : Dir) (h : buf.length < 5) : parse ks p c buf dir = .needMoreData := by
  match buf, h with
  | [], _ | [_], _ | [_, _], _ | [_, _, _], _ | [_, _, _, _], _ => rfl
  | _ :: _ :: _ :: _ :: _ :: _, h => simp at h; omega

/-- What PARSE answers once five bytes are present (R154). -/
theorem parse_cons (ks : KeyStream) (p : Params) (c : ConnConfig) (l1 l0 ty s1 s0 : Byte)
    (rest : List Byte) (dir : Dir) :
    parse ks p c (l1 :: l0 :: ty :: s1 :: s0 :: rest) dir =
      if p.maxPayload < (be16 l1 l0).toNat then .badLength
      else if rest.length < (be16 l1 l0).toNat + csumW c.csumAlg then .needMoreData
      else if csum c.csumAlg ([l1, l0, ty, s1, s0]
            ++ cryptPayload ks c dir (be16 s1 s0) (rest.take (be16 l1 l0).toNat))
          = (rest.drop (be16 l1 l0).toNat).take (csumW c.csumAlg) then
        .frame { ty := ty, seq := be16 s1 s0
                 payload := cryptPayload ks c dir (be16 s1 s0) (rest.take (be16 l1 l0).toNat) }
          (5 + (be16 l1 l0).toNat + csumW c.csumAlg)
      else .badChecksum (5 + (be16 l1 l0).toNat + csumW c.csumAlg) := by
  have e : ((l1 :: l0 :: ty :: s1 :: s0 :: rest).length
      < hdrW + (be16 l1 l0).toNat + csumW c.csumAlg)
      = (rest.length < (be16 l1 l0).toNat + csumW c.csumAlg) := by
    simp only [List.length_cons, hdrW, eq_iff_iff]; omega
  simp only [parse, e, hdrW]

/-- The extent of a verdict fits the buffer and is at least six bytes (R97, R154). -/
theorem parse_total (ks : KeyStream) (p : Params) (c : ConnConfig) (buf : List Byte) (dir : Dir)
    (t : Nat) (h : parse ks p c buf dir = .badChecksum t ∨ ∃ m, parse ks p c buf dir = .frame m t) :
    6 ≤ t ∧ t ≤ buf.length := by
  match buf with
  | [] | [_] | [_, _] | [_, _, _] | [_, _, _, _] => simp [parse] at h
  | l1 :: l0 :: ty :: s1 :: s0 :: rest =>
    rw [parse_cons] at h
    have := csumW_bounds c.csumAlg
    split at h
    · simp at h
    · split at h
      · simp at h
      · split at h <;> simp at h <;> simp <;> omega

/-- A shift of R151 loses nothing: the bit shifted out comes back as bit 0 of the result. -/
theorem crcShift_injective {a b : Half} (h : crcShift a = crcShift b) : a = b := by
  have bit : ∀ c : Half, ∀ i, (crcShift c).getLsbD i
      = ((decide (1 ≤ i ∧ i < 16) && c.getLsbD (i - 1)) ^^ (c.msb && (0x1021#16).getLsbD i)) := by
    intro c i
    unfold crcShift
    rcases Nat.lt_or_ge i 16 with hi | hi
    · by_cases h0 : i = 0
      · subst h0; cases c.msb <;> simp
      · have h1 : 1 ≤ i := by omega
        have hn : ¬ i < 1 := by omega
        have hp : i - 1 < 16 := by omega
        cases hm : c.msb <;> simp [hi, h1, hn, BitVec.getLsbD_eq_getElem hp]
    · have hn : ¬ i < 16 := by omega
      cases hm : c.msb <;> simp [BitVec.getLsbD_of_ge _ _ hi, hn]
  have hm : a.msb = b.msb := by
    have : (crcShift a).getLsbD 0 = (crcShift b).getLsbD 0 := by rw [h]
    rw [bit, bit] at this
    simpa using this
  apply BitVec.eq_of_getLsbD_eq
  intro i hi
  by_cases h15 : i = 15
  · subst h15; simpa [BitVec.msb_eq_getLsbD_last] using hm
  · have : (crcShift a).getLsbD (i + 1) = (crcShift b).getLsbD (i + 1) := by rw [h]
    have h16 : i + 1 < 16 := by omega
    have cancel : ∀ x y z : Bool, (x ^^ z) = (y ^^ z) → x = y := by decide
    rw [bit, bit, hm] at this
    simpa [h16] using cancel _ _ _ this

/-- For one byte, distinct registers of R151 stay distinct. -/
theorem crcByte_injective {a b : Half} {x : Byte} (h : crcByte a x = crcByte b x) : a = b := by
  unfold crcByte at h
  have := crcShift_injective (crcShift_injective (crcShift_injective (crcShift_injective
    (crcShift_injective (crcShift_injective (crcShift_injective (crcShift_injective h)))))))
  simpa [BitVec.xor_assoc] using congrArg (fun v : Half => v ^^^ (x ++ 0#8)) this

/-- ENCODE builds `FRAME_LEN` bytes (R97, R153). -/
@[simp] theorem encodeFrame_length (ks : KeyStream) (c : ConnConfig) (m : Message) (dir : Dir) :
    (encodeFrame ks c m dir).length = frameLen c m.payload.length := by
  simp [encodeFrame, frameLen, hdrW]; omega

/-- A buffer for which PARSE needs more data is shorter than the longest frame (R40(g)). -/
theorem length_of_needMoreData (ks : KeyStream) (p : Params) (c : ConnConfig) (buf : List Byte)
    (dir : Dir) (h : parse ks p c buf dir = .needMoreData) :
    buf.length + 1 ≤ hdrW + p.maxPayload + csumW c.csumAlg := by
  have := csumW_bounds c.csumAlg
  match buf with
  | [] | [_] | [_, _] | [_, _, _] | [_, _, _, _] => simp [hdrW]; omega
  | l1 :: l0 :: ty :: s1 :: s0 :: rest =>
    rw [parse_cons] at h
    split at h
    · simp at h
    · split at h
      · simp [hdrW]; omega
      · split at h <;> simp at h

end Sys2Proof.Machine
end

