-- ==== Sys2Proof/Laws/State.lean ====
section
/-! SUPPORT. One lemma per field per update of `State`, each true by `rfl`, so that no proof unfolds
a record update. -/

namespace Sys2Proof.Machine

/-! ### emitAll -/

@[simp] theorem emitAll_params (rs : List CplRecord) (s : State) :
    (emitAll rs s).params = s.params := rfl
@[simp] theorem emitAll_fcb (rs : List CplRecord) (s : State) : (emitAll rs s).fcb = s.fcb := rfl
@[simp] theorem emitAll_inbox (rs : List CplRecord) (s : State) :
    (emitAll rs s).port.inbox = s.port.inbox := rfl
@[simp] theorem emitAll_reqWaiting (rs : List CplRecord) (s : State) :
    (emitAll rs s).port.reqWaiting = s.port.reqWaiting := rfl
@[simp] theorem emitAll_reqPart (rs : List CplRecord) (s : State) :
    (emitAll rs s).port.reqPart = s.port.reqPart := rfl
@[simp] theorem emitAll_ctlTrace (rs : List CplRecord) (s : State) :
    (emitAll rs s).port.ctlTrace = s.port.ctlTrace := rfl
@[simp] theorem emitAll_cplTrace (rs : List CplRecord) (s : State) :
    (emitAll rs s).port.cplTrace = s.port.cplTrace ++ rs := rfl
@[simp] theorem emitAll_cplOut (rs : List CplRecord) (s : State) :
    (emitAll rs s).port.cplOut = s.port.cplOut ++ rs := rfl
@[simp] theorem emitAll_cplSent (rs : List CplRecord) (s : State) :
    (emitAll rs s).port.cplSent = s.port.cplSent := rfl
@[simp] theorem emitAll_cplStream (rs : List CplRecord) (s : State) :
    (emitAll rs s).port.cplStream = s.port.cplStream := rfl
@[simp] theorem emitAll_txTrace (rs : List CplRecord) (s : State) :
    (emitAll rs s).port.txTrace = s.port.txTrace := rfl

/-! ### emit -/

@[simp] theorem emit_params (r : CplRecord) (s : State) : (emit r s).params = s.params := rfl
@[simp] theorem emit_fcb (r : CplRecord) (s : State) : (emit r s).fcb = s.fcb := rfl
@[simp] theorem emit_inbox (r : CplRecord) (s : State) : (emit r s).port.inbox = s.port.inbox := rfl
@[simp] theorem emit_reqWaiting (r : CplRecord) (s : State) :
    (emit r s).port.reqWaiting = s.port.reqWaiting := rfl
@[simp] theorem emit_reqPart (r : CplRecord) (s : State) :
    (emit r s).port.reqPart = s.port.reqPart := rfl
@[simp] theorem emit_ctlTrace (r : CplRecord) (s : State) :
    (emit r s).port.ctlTrace = s.port.ctlTrace := rfl
@[simp] theorem emit_cplTrace (r : CplRecord) (s : State) :
    (emit r s).port.cplTrace = s.port.cplTrace ++ [r] := rfl
@[simp] theorem emit_cplOut (r : CplRecord) (s : State) :
    (emit r s).port.cplOut = s.port.cplOut ++ [r] := rfl
@[simp] theorem emit_cplSent (r : CplRecord) (s : State) :
    (emit r s).port.cplSent = s.port.cplSent := rfl
@[simp] theorem emit_cplStream (r : CplRecord) (s : State) :
    (emit r s).port.cplStream = s.port.cplStream := rfl
@[simp] theorem emit_txTrace (r : CplRecord) (s : State) :
    (emit r s).port.txTrace = s.port.txTrace := rfl

/-! ### respond -/

@[simp] theorem respond_params (c : CtlStatus) (v : Word) (s : State) :
    (respond c v s).params = s.params := rfl
@[simp] theorem respond_fcb (c : CtlStatus) (v : Word) (s : State) :
    (respond c v s).fcb = s.fcb := rfl
@[simp] theorem respond_inbox (c : CtlStatus) (v : Word) (s : State) :
    (respond c v s).port.inbox = s.port.inbox := rfl
@[simp] theorem respond_reqWaiting (c : CtlStatus) (v : Word) (s : State) :
    (respond c v s).port.reqWaiting = s.port.reqWaiting := rfl
@[simp] theorem respond_reqPart (c : CtlStatus) (v : Word) (s : State) :
    (respond c v s).port.reqPart = s.port.reqPart := rfl
@[simp] theorem respond_ctlTrace (c : CtlStatus) (v : Word) (s : State) :
    (respond c v s).port.ctlTrace = s.port.ctlTrace ++ [{ status := c, rdata := v }] := rfl
@[simp] theorem respond_cplTrace (c : CtlStatus) (v : Word) (s : State) :
    (respond c v s).port.cplTrace = s.port.cplTrace := rfl
@[simp] theorem respond_cplOut (c : CtlStatus) (v : Word) (s : State) :
    (respond c v s).port.cplOut = s.port.cplOut := rfl
@[simp] theorem respond_cplSent (c : CtlStatus) (v : Word) (s : State) :
    (respond c v s).port.cplSent = s.port.cplSent := rfl
@[simp] theorem respond_cplStream (c : CtlStatus) (v : Word) (s : State) :
    (respond c v s).port.cplStream = s.port.cplStream := rfl
@[simp] theorem respond_txTrace (c : CtlStatus) (v : Word) (s : State) :
    (respond c v s).port.txTrace = s.port.txTrace := rfl

/-! ### countRxOk -/

@[simp] theorem countRxOk_params (s : State) : (countRxOk s).params = s.params := rfl
@[simp] theorem countRxOk_port (s : State) : (countRxOk s).port = s.port := rfl
@[simp] theorem countRxOk_en (s : State) : (countRxOk s).fcb.en = s.fcb.en := rfl
@[simp] theorem countRxOk_conf (s : State) : (countRxOk s).fcb.conf = s.fcb.conf := rfl
@[simp] theorem countRxOk_cfgErr (s : State) : (countRxOk s).fcb.cfgErr = s.fcb.cfgErr := rfl
@[simp] theorem countRxOk_cfgErrCause (s : State) :
    (countRxOk s).fcb.cfgErrCause = s.fcb.cfgErrCause := rfl
@[simp] theorem countRxOk_link (s : State) : (countRxOk s).fcb.link = s.fcb.link := rfl
@[simp] theorem countRxOk_forceReconnect (s : State) :
    (countRxOk s).fcb.forceReconnect = s.fcb.forceReconnect := rfl
@[simp] theorem countRxOk_seqWrap (s : State) : (countRxOk s).fcb.seqWrap = s.fcb.seqWrap := rfl
@[simp] theorem countRxOk_cst (s : State) : (countRxOk s).fcb.cst = s.fcb.cst := rfl
@[simp] theorem countRxOk_out (s : State) : (countRxOk s).fcb.out = s.fcb.out := rfl
@[simp] theorem countRxOk_timer (s : State) : (countRxOk s).fcb.timer = s.fcb.timer := rfl
@[simp] theorem countRxOk_consecTo (s : State) : (countRxOk s).fcb.consecTo = s.fcb.consecTo := rfl
@[simp] theorem countRxOk_txSeq (s : State) : (countRxOk s).fcb.txSeq = s.fcb.txSeq := rfl
@[simp] theorem countRxOk_reqq (s : State) : (countRxOk s).fcb.reqq = s.fcb.reqq := rfl
@[simp] theorem countRxOk_txq (s : State) : (countRxOk s).fcb.txq = s.fcb.txq := rfl
@[simp] theorem countRxOk_rxbuf (s : State) : (countRxOk s).fcb.rxbuf = s.fcb.rxbuf := rfl
@[simp] theorem countRxOk_cnt_tx (s : State) : (countRxOk s).fcb.cnt.tx = s.fcb.cnt.tx := rfl
@[simp] theorem countRxOk_cnt_rxOk (s : State) :
    (countRxOk s).fcb.cnt.rxOk = s.fcb.cnt.rxOk + 1#32 := rfl
@[simp] theorem countRxOk_cnt_csumErr (s : State) :
    (countRxOk s).fcb.cnt.csumErr = s.fcb.cnt.csumErr := rfl
@[simp] theorem countRxOk_cnt_malformed (s : State) :
    (countRxOk s).fcb.cnt.malformed = s.fcb.cnt.malformed := rfl
@[simp] theorem countRxOk_cnt_unsol (s : State) :
    (countRxOk s).fcb.cnt.unsol = s.fcb.cnt.unsol := rfl
@[simp] theorem countRxOk_cnt_timeout (s : State) :
    (countRxOk s).fcb.cnt.timeout = s.fcb.cnt.timeout := rfl
@[simp] theorem countRxOk_cnt_rxDiscard (s : State) :
    (countRxOk s).fcb.cnt.rxDiscard = s.fcb.cnt.rxDiscard := rfl

/-! ### countCsumErr -/

@[simp] theorem countCsumErr_params (s : State) : (countCsumErr s).params = s.params := rfl
@[simp] theorem countCsumErr_port (s : State) : (countCsumErr s).port = s.port := rfl
@[simp] theorem countCsumErr_en (s : State) : (countCsumErr s).fcb.en = s.fcb.en := rfl
@[simp] theorem countCsumErr_conf (s : State) : (countCsumErr s).fcb.conf = s.fcb.conf := rfl
@[simp] theorem countCsumErr_cfgErr (s : State) : (countCsumErr s).fcb.cfgErr = s.fcb.cfgErr := rfl
@[simp] theorem countCsumErr_cfgErrCause (s : State) :
    (countCsumErr s).fcb.cfgErrCause = s.fcb.cfgErrCause := rfl
@[simp] theorem countCsumErr_link (s : State) : (countCsumErr s).fcb.link = s.fcb.link := rfl
@[simp] theorem countCsumErr_forceReconnect (s : State) :
    (countCsumErr s).fcb.forceReconnect = s.fcb.forceReconnect := rfl
@[simp] theorem countCsumErr_seqWrap (s : State) :
    (countCsumErr s).fcb.seqWrap = s.fcb.seqWrap := rfl
@[simp] theorem countCsumErr_cst (s : State) : (countCsumErr s).fcb.cst = s.fcb.cst := rfl
@[simp] theorem countCsumErr_out (s : State) : (countCsumErr s).fcb.out = s.fcb.out := rfl
@[simp] theorem countCsumErr_timer (s : State) : (countCsumErr s).fcb.timer = s.fcb.timer := rfl
@[simp] theorem countCsumErr_consecTo (s : State) :
    (countCsumErr s).fcb.consecTo = s.fcb.consecTo := rfl
@[simp] theorem countCsumErr_txSeq (s : State) : (countCsumErr s).fcb.txSeq = s.fcb.txSeq := rfl
@[simp] theorem countCsumErr_reqq (s : State) : (countCsumErr s).fcb.reqq = s.fcb.reqq := rfl
@[simp] theorem countCsumErr_txq (s : State) : (countCsumErr s).fcb.txq = s.fcb.txq := rfl
@[simp] theorem countCsumErr_rxbuf (s : State) : (countCsumErr s).fcb.rxbuf = s.fcb.rxbuf := rfl
@[simp] theorem countCsumErr_cnt_tx (s : State) : (countCsumErr s).fcb.cnt.tx = s.fcb.cnt.tx := rfl
@[simp] theorem countCsumErr_cnt_rxOk (s : State) :
    (countCsumErr s).fcb.cnt.rxOk = s.fcb.cnt.rxOk := rfl
@[simp] theorem countCsumErr_cnt_csumErr (s : State) :
    (countCsumErr s).fcb.cnt.csumErr = s.fcb.cnt.csumErr + 1#32 := rfl
@[simp] theorem countCsumErr_cnt_malformed (s : State) :
    (countCsumErr s).fcb.cnt.malformed = s.fcb.cnt.malformed := rfl
@[simp] theorem countCsumErr_cnt_unsol (s : State) :
    (countCsumErr s).fcb.cnt.unsol = s.fcb.cnt.unsol := rfl
@[simp] theorem countCsumErr_cnt_timeout (s : State) :
    (countCsumErr s).fcb.cnt.timeout = s.fcb.cnt.timeout := rfl
@[simp] theorem countCsumErr_cnt_rxDiscard (s : State) :
    (countCsumErr s).fcb.cnt.rxDiscard = s.fcb.cnt.rxDiscard := rfl

/-! ### countMalformed -/

@[simp] theorem countMalformed_params (s : State) : (countMalformed s).params = s.params := rfl
@[simp] theorem countMalformed_port (s : State) : (countMalformed s).port = s.port := rfl
@[simp] theorem countMalformed_en (s : State) : (countMalformed s).fcb.en = s.fcb.en := rfl
@[simp] theorem countMalformed_conf (s : State) : (countMalformed s).fcb.conf = s.fcb.conf := rfl
@[simp] theorem countMalformed_cfgErr (s : State) :
    (countMalformed s).fcb.cfgErr = s.fcb.cfgErr := rfl
@[simp] theorem countMalformed_cfgErrCause (s : State) :
    (countMalformed s).fcb.cfgErrCause = s.fcb.cfgErrCause := rfl
@[simp] theorem countMalformed_link (s : State) : (countMalformed s).fcb.link = s.fcb.link := rfl
@[simp] theorem countMalformed_forceReconnect (s : State) :
    (countMalformed s).fcb.forceReconnect = s.fcb.forceReconnect := rfl
@[simp] theorem countMalformed_seqWrap (s : State) :
    (countMalformed s).fcb.seqWrap = s.fcb.seqWrap := rfl
@[simp] theorem countMalformed_cst (s : State) : (countMalformed s).fcb.cst = s.fcb.cst := rfl
@[simp] theorem countMalformed_out (s : State) : (countMalformed s).fcb.out = s.fcb.out := rfl
@[simp] theorem countMalformed_timer (s : State) : (countMalformed s).fcb.timer = s.fcb.timer := rfl
@[simp] theorem countMalformed_consecTo (s : State) :
    (countMalformed s).fcb.consecTo = s.fcb.consecTo := rfl
@[simp] theorem countMalformed_txSeq (s : State) : (countMalformed s).fcb.txSeq = s.fcb.txSeq := rfl
@[simp] theorem countMalformed_reqq (s : State) : (countMalformed s).fcb.reqq = s.fcb.reqq := rfl
@[simp] theorem countMalformed_txq (s : State) : (countMalformed s).fcb.txq = s.fcb.txq := rfl
@[simp] theorem countMalformed_rxbuf (s : State) : (countMalformed s).fcb.rxbuf = s.fcb.rxbuf := rfl
@[simp] theorem countMalformed_cnt_tx (s : State) :
    (countMalformed s).fcb.cnt.tx = s.fcb.cnt.tx := rfl
@[simp] theorem countMalformed_cnt_rxOk (s : State) :
    (countMalformed s).fcb.cnt.rxOk = s.fcb.cnt.rxOk := rfl
@[simp] theorem countMalformed_cnt_csumErr (s : State) :
    (countMalformed s).fcb.cnt.csumErr = s.fcb.cnt.csumErr := rfl
@[simp] theorem countMalformed_cnt_malformed (s : State) :
    (countMalformed s).fcb.cnt.malformed = s.fcb.cnt.malformed + 1#32 := rfl
@[simp] theorem countMalformed_cnt_unsol (s : State) :
    (countMalformed s).fcb.cnt.unsol = s.fcb.cnt.unsol := rfl
@[simp] theorem countMalformed_cnt_timeout (s : State) :
    (countMalformed s).fcb.cnt.timeout = s.fcb.cnt.timeout := rfl
@[simp] theorem countMalformed_cnt_rxDiscard (s : State) :
    (countMalformed s).fcb.cnt.rxDiscard = s.fcb.cnt.rxDiscard := rfl

/-! ### countUnsol -/

@[simp] theorem countUnsol_params (s : State) : (countUnsol s).params = s.params := rfl
@[simp] theorem countUnsol_port (s : State) : (countUnsol s).port = s.port := rfl
@[simp] theorem countUnsol_en (s : State) : (countUnsol s).fcb.en = s.fcb.en := rfl
@[simp] theorem countUnsol_conf (s : State) : (countUnsol s).fcb.conf = s.fcb.conf := rfl
@[simp] theorem countUnsol_cfgErr (s : State) : (countUnsol s).fcb.cfgErr = s.fcb.cfgErr := rfl
@[simp] theorem countUnsol_cfgErrCause (s : State) :
    (countUnsol s).fcb.cfgErrCause = s.fcb.cfgErrCause := rfl
@[simp] theorem countUnsol_link (s : State) : (countUnsol s).fcb.link = s.fcb.link := rfl
@[simp] theorem countUnsol_forceReconnect (s : State) :
    (countUnsol s).fcb.forceReconnect = s.fcb.forceReconnect := rfl
@[simp] theorem countUnsol_seqWrap (s : State) : (countUnsol s).fcb.seqWrap = s.fcb.seqWrap := rfl
@[simp] theorem countUnsol_cst (s : State) : (countUnsol s).fcb.cst = s.fcb.cst := rfl
@[simp] theorem countUnsol_out (s : State) : (countUnsol s).fcb.out = s.fcb.out := rfl
@[simp] theorem countUnsol_timer (s : State) : (countUnsol s).fcb.timer = s.fcb.timer := rfl
@[simp] theorem countUnsol_consecTo (s : State) :
    (countUnsol s).fcb.consecTo = s.fcb.consecTo := rfl
@[simp] theorem countUnsol_txSeq (s : State) : (countUnsol s).fcb.txSeq = s.fcb.txSeq := rfl
@[simp] theorem countUnsol_reqq (s : State) : (countUnsol s).fcb.reqq = s.fcb.reqq := rfl
@[simp] theorem countUnsol_txq (s : State) : (countUnsol s).fcb.txq = s.fcb.txq := rfl
@[simp] theorem countUnsol_rxbuf (s : State) : (countUnsol s).fcb.rxbuf = s.fcb.rxbuf := rfl
@[simp] theorem countUnsol_cnt_tx (s : State) : (countUnsol s).fcb.cnt.tx = s.fcb.cnt.tx := rfl
@[simp] theorem countUnsol_cnt_rxOk (s : State) :
    (countUnsol s).fcb.cnt.rxOk = s.fcb.cnt.rxOk := rfl
@[simp] theorem countUnsol_cnt_csumErr (s : State) :
    (countUnsol s).fcb.cnt.csumErr = s.fcb.cnt.csumErr := rfl
@[simp] theorem countUnsol_cnt_malformed (s : State) :
    (countUnsol s).fcb.cnt.malformed = s.fcb.cnt.malformed := rfl
@[simp] theorem countUnsol_cnt_unsol (s : State) :
    (countUnsol s).fcb.cnt.unsol = s.fcb.cnt.unsol + 1#32 := rfl
@[simp] theorem countUnsol_cnt_timeout (s : State) :
    (countUnsol s).fcb.cnt.timeout = s.fcb.cnt.timeout := rfl
@[simp] theorem countUnsol_cnt_rxDiscard (s : State) :
    (countUnsol s).fcb.cnt.rxDiscard = s.fcb.cnt.rxDiscard := rfl

/-! ### countRxDiscard -/

@[simp] theorem countRxDiscard_params (s : State) : (countRxDiscard s).params = s.params := rfl
@[simp] theorem countRxDiscard_port (s : State) : (countRxDiscard s).port = s.port := rfl
@[simp] theorem countRxDiscard_en (s : State) : (countRxDiscard s).fcb.en = s.fcb.en := rfl
@[simp] theorem countRxDiscard_conf (s : State) : (countRxDiscard s).fcb.conf = s.fcb.conf := rfl
@[simp] theorem countRxDiscard_cfgErr (s : State) :
    (countRxDiscard s).fcb.cfgErr = s.fcb.cfgErr := rfl
@[simp] theorem countRxDiscard_cfgErrCause (s : State) :
    (countRxDiscard s).fcb.cfgErrCause = s.fcb.cfgErrCause := rfl
@[simp] theorem countRxDiscard_link (s : State) : (countRxDiscard s).fcb.link = s.fcb.link := rfl
@[simp] theorem countRxDiscard_forceReconnect (s : State) :
    (countRxDiscard s).fcb.forceReconnect = s.fcb.forceReconnect := rfl
@[simp] theorem countRxDiscard_seqWrap (s : State) :
    (countRxDiscard s).fcb.seqWrap = s.fcb.seqWrap := rfl
@[simp] theorem countRxDiscard_cst (s : State) : (countRxDiscard s).fcb.cst = s.fcb.cst := rfl
@[simp] theorem countRxDiscard_out (s : State) : (countRxDiscard s).fcb.out = s.fcb.out := rfl
@[simp] theorem countRxDiscard_timer (s : State) : (countRxDiscard s).fcb.timer = s.fcb.timer := rfl
@[simp] theorem countRxDiscard_consecTo (s : State) :
    (countRxDiscard s).fcb.consecTo = s.fcb.consecTo := rfl
@[simp] theorem countRxDiscard_txSeq (s : State) : (countRxDiscard s).fcb.txSeq = s.fcb.txSeq := rfl
@[simp] theorem countRxDiscard_reqq (s : State) : (countRxDiscard s).fcb.reqq = s.fcb.reqq := rfl
@[simp] theorem countRxDiscard_txq (s : State) : (countRxDiscard s).fcb.txq = s.fcb.txq := rfl
@[simp] theorem countRxDiscard_rxbuf (s : State) : (countRxDiscard s).fcb.rxbuf = s.fcb.rxbuf := rfl
@[simp] theorem countRxDiscard_cnt_tx (s : State) :
    (countRxDiscard s).fcb.cnt.tx = s.fcb.cnt.tx := rfl
@[simp] theorem countRxDiscard_cnt_rxOk (s : State) :
    (countRxDiscard s).fcb.cnt.rxOk = s.fcb.cnt.rxOk := rfl
@[simp] theorem countRxDiscard_cnt_csumErr (s : State) :
    (countRxDiscard s).fcb.cnt.csumErr = s.fcb.cnt.csumErr := rfl
@[simp] theorem countRxDiscard_cnt_malformed (s : State) :
    (countRxDiscard s).fcb.cnt.malformed = s.fcb.cnt.malformed := rfl
@[simp] theorem countRxDiscard_cnt_unsol (s : State) :
    (countRxDiscard s).fcb.cnt.unsol = s.fcb.cnt.unsol := rfl
@[simp] theorem countRxDiscard_cnt_timeout (s : State) :
    (countRxDiscard s).fcb.cnt.timeout = s.fcb.cnt.timeout := rfl
@[simp] theorem countRxDiscard_cnt_rxDiscard (s : State) :
    (countRxDiscard s).fcb.cnt.rxDiscard = s.fcb.cnt.rxDiscard + 1#32 := rfl

/-! ### dropRx -/

@[simp] theorem dropRx_params (n : Nat) (s : State) : (dropRx n s).params = s.params := rfl
@[simp] theorem dropRx_port (n : Nat) (s : State) : (dropRx n s).port = s.port := rfl
@[simp] theorem dropRx_en (n : Nat) (s : State) : (dropRx n s).fcb.en = s.fcb.en := rfl
@[simp] theorem dropRx_conf (n : Nat) (s : State) : (dropRx n s).fcb.conf = s.fcb.conf := rfl
@[simp] theorem dropRx_cfgErr (n : Nat) (s : State) : (dropRx n s).fcb.cfgErr = s.fcb.cfgErr := rfl
@[simp] theorem dropRx_cfgErrCause (n : Nat) (s : State) :
    (dropRx n s).fcb.cfgErrCause = s.fcb.cfgErrCause := rfl
@[simp] theorem dropRx_link (n : Nat) (s : State) : (dropRx n s).fcb.link = s.fcb.link := rfl
@[simp] theorem dropRx_forceReconnect (n : Nat) (s : State) :
    (dropRx n s).fcb.forceReconnect = s.fcb.forceReconnect := rfl
@[simp] theorem dropRx_seqWrap (n : Nat) (s : State) :
    (dropRx n s).fcb.seqWrap = s.fcb.seqWrap := rfl
@[simp] theorem dropRx_cst (n : Nat) (s : State) : (dropRx n s).fcb.cst = s.fcb.cst := rfl
@[simp] theorem dropRx_out (n : Nat) (s : State) : (dropRx n s).fcb.out = s.fcb.out := rfl
@[simp] theorem dropRx_timer (n : Nat) (s : State) : (dropRx n s).fcb.timer = s.fcb.timer := rfl
@[simp] theorem dropRx_consecTo (n : Nat) (s : State) :
    (dropRx n s).fcb.consecTo = s.fcb.consecTo := rfl
@[simp] theorem dropRx_txSeq (n : Nat) (s : State) : (dropRx n s).fcb.txSeq = s.fcb.txSeq := rfl
@[simp] theorem dropRx_reqq (n : Nat) (s : State) : (dropRx n s).fcb.reqq = s.fcb.reqq := rfl
@[simp] theorem dropRx_txq (n : Nat) (s : State) : (dropRx n s).fcb.txq = s.fcb.txq := rfl
@[simp] theorem dropRx_rxbuf (n : Nat) (s : State) :
    (dropRx n s).fcb.rxbuf = s.fcb.rxbuf.drop n := rfl
@[simp] theorem dropRx_cnt (n : Nat) (s : State) : (dropRx n s).fcb.cnt = s.fcb.cnt := rfl

/-! ### issueHead -/

@[simp] theorem issueHead_params (d : Descriptor) (rest : List Descriptor) (s : State) :
    (issueHead d rest s).params = s.params := rfl
@[simp] theorem issueHead_port (d : Descriptor) (rest : List Descriptor) (s : State) :
    (issueHead d rest s).port = s.port := rfl
@[simp] theorem issueHead_en (d : Descriptor) (rest : List Descriptor) (s : State) :
    (issueHead d rest s).fcb.en = s.fcb.en := rfl
@[simp] theorem issueHead_conf (d : Descriptor) (rest : List Descriptor) (s : State) :
    (issueHead d rest s).fcb.conf = s.fcb.conf := rfl
@[simp] theorem issueHead_cfgErr (d : Descriptor) (rest : List Descriptor) (s : State) :
    (issueHead d rest s).fcb.cfgErr = s.fcb.cfgErr := rfl
@[simp] theorem issueHead_cfgErrCause (d : Descriptor) (rest : List Descriptor) (s : State) :
    (issueHead d rest s).fcb.cfgErrCause = s.fcb.cfgErrCause := rfl
@[simp] theorem issueHead_link (d : Descriptor) (rest : List Descriptor) (s : State) :
    (issueHead d rest s).fcb.link = s.fcb.link := rfl
@[simp] theorem issueHead_forceReconnect (d : Descriptor) (rest : List Descriptor) (s : State) :
    (issueHead d rest s).fcb.forceReconnect = s.fcb.forceReconnect := rfl
@[simp] theorem issueHead_seqWrap (d : Descriptor) (rest : List Descriptor) (s : State) :
    (issueHead d rest s).fcb.seqWrap = (s.fcb.seqWrap || s.fcb.txSeq + 1#16 == 0#16) := rfl
@[simp] theorem issueHead_cst (d : Descriptor) (rest : List Descriptor) (s : State) :
    (issueHead d rest s).fcb.cst = .wait := rfl
@[simp] theorem issueHead_out (d : Descriptor) (rest : List Descriptor) (s : State) :
    (issueHead d rest s).fcb.out = { tag := d.tag, ty := d.ty, expTy := d.expTy, seq := s.fcb.txSeq } := rfl
@[simp] theorem issueHead_timer (d : Descriptor) (rest : List Descriptor) (s : State) :
    (issueHead d rest s).fcb.timer = exchangeTimeout s.fcb.conf d := rfl
@[simp] theorem issueHead_consecTo (d : Descriptor) (rest : List Descriptor) (s : State) :
    (issueHead d rest s).fcb.consecTo = s.fcb.consecTo := rfl
@[simp] theorem issueHead_txSeq (d : Descriptor) (rest : List Descriptor) (s : State) :
    (issueHead d rest s).fcb.txSeq = s.fcb.txSeq + 1#16 := rfl
@[simp] theorem issueHead_reqq (d : Descriptor) (rest : List Descriptor) (s : State) :
    (issueHead d rest s).fcb.reqq = rest := rfl
@[simp] theorem issueHead_txq (d : Descriptor) (rest : List Descriptor) (s : State) :
    (issueHead d rest s).fcb.txq = s.fcb.txq ++ requestFrame s.fcb d := rfl
@[simp] theorem issueHead_rxbuf (d : Descriptor) (rest : List Descriptor) (s : State) :
    (issueHead d rest s).fcb.rxbuf = s.fcb.rxbuf := rfl
@[simp] theorem issueHead_cnt_tx (d : Descriptor) (rest : List Descriptor) (s : State) :
    (issueHead d rest s).fcb.cnt.tx = s.fcb.cnt.tx + 1#32 := rfl
@[simp] theorem issueHead_cnt_rxOk (d : Descriptor) (rest : List Descriptor) (s : State) :
    (issueHead d rest s).fcb.cnt.rxOk = s.fcb.cnt.rxOk := rfl
@[simp] theorem issueHead_cnt_csumErr (d : Descriptor) (rest : List Descriptor) (s : State) :
    (issueHead d rest s).fcb.cnt.csumErr = s.fcb.cnt.csumErr := rfl
@[simp] theorem issueHead_cnt_malformed (d : Descriptor) (rest : List Descriptor) (s : State) :
    (issueHead d rest s).fcb.cnt.malformed = s.fcb.cnt.malformed := rfl
@[simp] theorem issueHead_cnt_unsol (d : Descriptor) (rest : List Descriptor) (s : State) :
    (issueHead d rest s).fcb.cnt.unsol = s.fcb.cnt.unsol := rfl
@[simp] theorem issueHead_cnt_timeout (d : Descriptor) (rest : List Descriptor) (s : State) :
    (issueHead d rest s).fcb.cnt.timeout = s.fcb.cnt.timeout := rfl
@[simp] theorem issueHead_cnt_rxDiscard (d : Descriptor) (rest : List Descriptor) (s : State) :
    (issueHead d rest s).fcb.cnt.rxDiscard = s.fcb.cnt.rxDiscard := rfl

/-! ### failAll -/

@[simp] theorem failAll_params (s : State) : (failAll s).params = s.params := rfl
@[simp] theorem failAll_en (s : State) : (failAll s).fcb.en = s.fcb.en := rfl
@[simp] theorem failAll_conf (s : State) : (failAll s).fcb.conf = s.fcb.conf := rfl
@[simp] theorem failAll_cfgErr (s : State) : (failAll s).fcb.cfgErr = s.fcb.cfgErr := rfl
@[simp] theorem failAll_cfgErrCause (s : State) :
    (failAll s).fcb.cfgErrCause = s.fcb.cfgErrCause := rfl
@[simp] theorem failAll_link (s : State) : (failAll s).fcb.link = false := rfl
@[simp] theorem failAll_forceReconnect (s : State) : (failAll s).fcb.forceReconnect = false := rfl
@[simp] theorem failAll_seqWrap (s : State) : (failAll s).fcb.seqWrap = s.fcb.seqWrap := rfl
@[simp] theorem failAll_cst (s : State) : (failAll s).fcb.cst = .idle := rfl
@[simp] theorem failAll_out (s : State) : (failAll s).fcb.out = s.fcb.out := rfl
@[simp] theorem failAll_timer (s : State) : (failAll s).fcb.timer = 0#16 := rfl
@[simp] theorem failAll_consecTo (s : State) : (failAll s).fcb.consecTo = 0#8 := rfl
@[simp] theorem failAll_txSeq (s : State) : (failAll s).fcb.txSeq = s.fcb.txSeq := rfl
@[simp] theorem failAll_reqq (s : State) : (failAll s).fcb.reqq = [] := rfl
@[simp] theorem failAll_txq (s : State) : (failAll s).fcb.txq = [] := rfl
@[simp] theorem failAll_rxbuf (s : State) : (failAll s).fcb.rxbuf = [] := rfl
@[simp] theorem failAll_cnt (s : State) : (failAll s).fcb.cnt = s.fcb.cnt := rfl
@[simp] theorem failAll_inbox (s : State) : (failAll s).port.inbox = s.port.inbox := rfl
@[simp] theorem failAll_reqWaiting (s : State) :
    (failAll s).port.reqWaiting = s.port.reqWaiting := rfl
@[simp] theorem failAll_reqPart (s : State) : (failAll s).port.reqPart = s.port.reqPart := rfl
@[simp] theorem failAll_ctlTrace (s : State) : (failAll s).port.ctlTrace = s.port.ctlTrace := rfl
@[simp] theorem failAll_cplTrace (s : State) :
    (failAll s).port.cplTrace = s.port.cplTrace ++ lostRecords s.fcb := rfl
@[simp] theorem failAll_cplOut (s : State) :
    (failAll s).port.cplOut = s.port.cplOut ++ lostRecords s.fcb := rfl
@[simp] theorem failAll_cplSent (s : State) : (failAll s).port.cplSent = s.port.cplSent := rfl
@[simp] theorem failAll_cplStream (s : State) : (failAll s).port.cplStream = s.port.cplStream := rfl
@[simp] theorem failAll_txTrace (s : State) : (failAll s).port.txTrace = s.port.txTrace := rfl

/-! ### timeoutCompletion -/

@[simp] theorem timeoutCompletion_params (s : State) :
    (timeoutCompletion s).params = s.params := rfl
@[simp] theorem timeoutCompletion_en (s : State) : (timeoutCompletion s).fcb.en = s.fcb.en := rfl
@[simp] theorem timeoutCompletion_conf (s : State) :
    (timeoutCompletion s).fcb.conf = s.fcb.conf := rfl
@[simp] theorem timeoutCompletion_cfgErr (s : State) :
    (timeoutCompletion s).fcb.cfgErr = s.fcb.cfgErr := rfl
@[simp] theorem timeoutCompletion_cfgErrCause (s : State) :
    (timeoutCompletion s).fcb.cfgErrCause = s.fcb.cfgErrCause := rfl
@[simp] theorem timeoutCompletion_link (s : State) :
    (timeoutCompletion s).fcb.link = s.fcb.link := rfl
@[simp] theorem timeoutCompletion_forceReconnect (s : State) :
    (timeoutCompletion s).fcb.forceReconnect = (s.fcb.forceReconnect || limitReached s.fcb.conf (consecSucc s.fcb.consecTo)) := rfl
@[simp] theorem timeoutCompletion_seqWrap (s : State) :
    (timeoutCompletion s).fcb.seqWrap = s.fcb.seqWrap := rfl
@[simp] theorem timeoutCompletion_cst (s : State) : (timeoutCompletion s).fcb.cst = .idle := rfl
@[simp] theorem timeoutCompletion_out (s : State) : (timeoutCompletion s).fcb.out = s.fcb.out := rfl
@[simp] theorem timeoutCompletion_timer (s : State) :
    (timeoutCompletion s).fcb.timer = s.fcb.timer := rfl
@[simp] theorem timeoutCompletion_consecTo (s : State) :
    (timeoutCompletion s).fcb.consecTo = consecSucc s.fcb.consecTo := rfl
@[simp] theorem timeoutCompletion_txSeq (s : State) :
    (timeoutCompletion s).fcb.txSeq = s.fcb.txSeq := rfl
@[simp] theorem timeoutCompletion_reqq (s : State) :
    (timeoutCompletion s).fcb.reqq = s.fcb.reqq := rfl
@[simp] theorem timeoutCompletion_txq (s : State) : (timeoutCompletion s).fcb.txq = s.fcb.txq := rfl
@[simp] theorem timeoutCompletion_rxbuf (s : State) :
    (timeoutCompletion s).fcb.rxbuf = s.fcb.rxbuf := rfl
@[simp] theorem timeoutCompletion_cnt_tx (s : State) :
    (timeoutCompletion s).fcb.cnt.tx = s.fcb.cnt.tx := rfl
@[simp] theorem timeoutCompletion_cnt_rxOk (s : State) :
    (timeoutCompletion s).fcb.cnt.rxOk = s.fcb.cnt.rxOk := rfl
@[simp] theorem timeoutCompletion_cnt_csumErr (s : State) :
    (timeoutCompletion s).fcb.cnt.csumErr = s.fcb.cnt.csumErr := rfl
@[simp] theorem timeoutCompletion_cnt_malformed (s : State) :
    (timeoutCompletion s).fcb.cnt.malformed = s.fcb.cnt.malformed := rfl
@[simp] theorem timeoutCompletion_cnt_unsol (s : State) :
    (timeoutCompletion s).fcb.cnt.unsol = s.fcb.cnt.unsol := rfl
@[simp] theorem timeoutCompletion_cnt_timeout (s : State) :
    (timeoutCompletion s).fcb.cnt.timeout = s.fcb.cnt.timeout + 1#32 := rfl
@[simp] theorem timeoutCompletion_cnt_rxDiscard (s : State) :
    (timeoutCompletion s).fcb.cnt.rxDiscard = s.fcb.cnt.rxDiscard := rfl
@[simp] theorem timeoutCompletion_inbox (s : State) :
    (timeoutCompletion s).port.inbox = s.port.inbox := rfl
@[simp] theorem timeoutCompletion_reqWaiting (s : State) :
    (timeoutCompletion s).port.reqWaiting = s.port.reqWaiting := rfl
@[simp] theorem timeoutCompletion_reqPart (s : State) :
    (timeoutCompletion s).port.reqPart = s.port.reqPart := rfl
@[simp] theorem timeoutCompletion_ctlTrace (s : State) :
    (timeoutCompletion s).port.ctlTrace = s.port.ctlTrace := rfl
@[simp] theorem timeoutCompletion_cplTrace (s : State) :
    (timeoutCompletion s).port.cplTrace = s.port.cplTrace ++ [{ status := .timeout, tag := s.fcb.out.tag, ty := s.fcb.out.ty, seq := s.fcb.out.seq, payload := [] }] := rfl
@[simp] theorem timeoutCompletion_cplOut (s : State) :
    (timeoutCompletion s).port.cplOut = s.port.cplOut ++ [{ status := .timeout, tag := s.fcb.out.tag, ty := s.fcb.out.ty, seq := s.fcb.out.seq, payload := [] }] := rfl
@[simp] theorem timeoutCompletion_cplSent (s : State) :
    (timeoutCompletion s).port.cplSent = s.port.cplSent := rfl
@[simp] theorem timeoutCompletion_cplStream (s : State) :
    (timeoutCompletion s).port.cplStream = s.port.cplStream := rfl
@[simp] theorem timeoutCompletion_txTrace (s : State) :
    (timeoutCompletion s).port.txTrace = s.port.txTrace := rfl

end Sys2Proof.Machine
end

