-- ==== Sys2Proof/Laws/Ops.lean ====
section
/-! SUPPORT. Each shared operation's behaviour, said once: proofs cite these and do not unfold the
operations. -/

namespace Sys2Proof.Machine

/-! ### SETTLE -/

theorem issueEnabled_cases (s : State) (h : issueEnabled s = true) :
    ∃ d rest, s.fcb.reqq = d :: rest ∧ s.fcb.en = true ∧ s.fcb.link = true ∧ s.fcb.cst = .idle
      ∧ frameLen s.fcb.conf d.payload.length ≤ s.params.txqBytes - s.fcb.txq.length := by
  unfold issueEnabled headFits free at h
  cases hq : s.fcb.reqq with
  | nil => simp [hq] at h
  | cons d rest =>
    simp only [hq, Bool.and_eq_true, beq_iff_eq, decide_eq_true_eq] at h
    exact ⟨d, rest, rfl, h.1.1.1, h.1.1.2, h.1.2, h.2⟩

/-- SETTLE does nothing, or it is the ISSUE of the head of REQQ (R184). -/
theorem settle_cases (s : State) :
    (issueEnabled s = false ∧ settle s = s) ∨
    (∃ d rest, s.fcb.reqq = d :: rest ∧ s.fcb.en = true ∧ s.fcb.link = true ∧ s.fcb.cst = .idle
      ∧ frameLen s.fcb.conf d.payload.length ≤ s.params.txqBytes - s.fcb.txq.length
      ∧ settle s = issueHead d rest s) := by
  cases h : issueEnabled s with
  | false => exact .inl ⟨rfl, by simp [settle, h]⟩
  | true =>
    obtain ⟨d, rest, hq, he, hl, hc, hf⟩ := issueEnabled_cases s h
    exact .inr ⟨d, rest, hq, he, hl, hc, hf, by simp [settle, h, issue, hq]⟩

theorem settle_of_not_enabled {s : State} (h : issueEnabled s = false) : settle s = s := by
  simp [settle, h]

theorem issueEnabled_of_wait {s : State} (h : s.fcb.cst = .wait) : issueEnabled s = false := by
  simp [issueEnabled, h]

theorem issueEnabled_of_empty {s : State} (h : s.fcb.reqq = []) : issueEnabled s = false := by
  simp [issueEnabled, headFits, h]

theorem issueEnabled_of_unlinked {s : State} (h : s.fcb.link = false) : issueEnabled s = false := by
  simp [issueEnabled, h]

theorem issueEnabled_of_disabled {s : State} (h : s.fcb.en = false) : issueEnabled s = false := by
  simp [issueEnabled, h]

theorem settle_issue {s : State} {d : Descriptor} {rest : List Descriptor} (he : s.fcb.en = true)
    (hl : s.fcb.link = true) (hc : s.fcb.cst = .idle) (hq : s.fcb.reqq = d :: rest)
    (hf : frameLen s.fcb.conf d.payload.length ≤ s.params.txqBytes - s.fcb.txq.length) :
    settle s = issueHead d rest s := by
  have : issueEnabled s = true := by simp [issueEnabled, headFits, free, he, hl, hc, hq, hf]
  simp [settle, this, issue, hq]

/-- Whether ISSUE is enabled depends only on these parts of the state. -/
theorem issueEnabled_congr {s t : State} (hp : s.params = t.params) (he : s.fcb.en = t.fcb.en)
    (hl : s.fcb.link = t.fcb.link) (hc : s.fcb.cst = t.fcb.cst) (hr : s.fcb.reqq = t.fcb.reqq)
    (ht : s.fcb.txq = t.fcb.txq) (hf : s.fcb.conf = t.fcb.conf) : issueEnabled s = issueEnabled t := by
  unfold issueEnabled headFits; rw [hp, he, hl, hc, hr, ht, hf]

/-- SETTLE leaves the configuration, the flags but SEQ_WRAP, RXBUF, every counter but CNT_TX, the
parameters and the ports (R183). -/
theorem settle_frame (s : State) :
    (settle s).params = s.params ∧ (settle s).port = s.port ∧ (settle s).fcb.en = s.fcb.en
    ∧ (settle s).fcb.conf = s.fcb.conf ∧ (settle s).fcb.cfgErr = s.fcb.cfgErr
    ∧ (settle s).fcb.cfgErrCause = s.fcb.cfgErrCause ∧ (settle s).fcb.link = s.fcb.link
    ∧ (settle s).fcb.forceReconnect = s.fcb.forceReconnect
    ∧ (settle s).fcb.consecTo = s.fcb.consecTo ∧ (settle s).fcb.rxbuf = s.fcb.rxbuf
    ∧ (∃ n, (settle s).fcb.cnt = { s.fcb.cnt with tx := n }) := by
  rcases settle_cases s with ⟨_, e⟩ | ⟨d, rest, _, _, _, _, _, e⟩ <;> rw [e]
  · exact ⟨rfl, rfl, rfl, rfl, rfl, rfl, rfl, rfl, rfl, rfl, s.fcb.cnt.tx, rfl⟩
  · exact ⟨rfl, rfl, rfl, rfl, rfl, rfl, rfl, rfl, rfl, rfl, _, rfl⟩

/-! ### DELIVER and DEFRAME -/

/-- DELIVER completes the exchange with OK or reports the message as UNSOLICITED (R186). -/
theorem deliver_cases (m : Message) (s : State) :
    (answers s m = true ∧ deliver m s =
      { s with
        fcb := { s.fcb with cst := .idle, timer := 0#16, consecTo := 0#8 }
        port := (emit { status := .ok, tag := s.fcb.out.tag, ty := m.ty, seq := m.seq
                        payload := m.payload } s).port })
    ∨ (answers s m = false ∧ deliver m s =
      { s with
        fcb := { s.fcb with cnt := { s.fcb.cnt with unsol := s.fcb.cnt.unsol + 1#32 } }
        port := (emit { status := .unsolicited, tag := 15#4, ty := m.ty, seq := m.seq
                        payload := m.payload } s).port }) := by
  cases h : answers s m with
  | true => exact .inl ⟨rfl, by simp [deliver, h]⟩
  | false => exact .inr ⟨rfl, by simp [deliver, h, countUnsol]⟩

/-- What one turn of DEFRAME's loop that is not the last does (R156 to R158). -/
def DeframeTurn (s t : State) : Prop :=
  (rxVerdict s = .badLength ∧ t = dropRx 1 (countMalformed s))
  ∨ (∃ n, rxVerdict s = .badChecksum n ∧ t = dropRx n (countCsumErr s))
  ∨ (∃ m n, rxVerdict s = .frame m n ∧ t = deliver m (countRxOk (dropRx n s)))

theorem deframeTurn_shrinks {s t : State} (h : DeframeTurn s t) :
    t.fcb.rxbuf.length < s.fcb.rxbuf.length := by
  rcases h with ⟨hv, rfl⟩ | ⟨n, hv, rfl⟩ | ⟨m, n, hv, rfl⟩
  · have : ¬ s.fcb.rxbuf.length < 5 := fun hs => by
      rw [rxVerdict, parse_needMoreData_of_short _ _ _ _ _ hs] at hv; simp at hv
    simp; omega
  · have := parse_total _ _ _ _ _ n (.inl hv); simp; omega
  · have := parse_total _ _ _ _ _ n (.inr ⟨m, hv⟩)
    rcases deliver_cases m (countRxOk (dropRx n s)) with ⟨_, e⟩ | ⟨_, e⟩ <;> rw [e] <;> simp <;> omega

theorem deframeLoop_stop {s : State} (h : rxVerdict s = .needMoreData) (k : Nat) :
    deframeLoop k s = s := by
  cases k <;> simp [deframeLoop, h]

theorem deframeLoop_turn {s t : State} (h : DeframeTurn s t) (k : Nat) :
    deframeLoop (k + 1) s = deframeLoop k t := by
  rcases h with ⟨hv, rfl⟩ | ⟨n, hv, rfl⟩ | ⟨m, n, hv, rfl⟩ <;> simp [deframeLoop, hv]

theorem deframeTurn_of_verdict (s : State) :
    rxVerdict s = .needMoreData ∨ ∃ t, DeframeTurn s t := by
  cases h : rxVerdict s with
  | needMoreData => exact .inl rfl
  | badLength => exact .inr ⟨_, .inl ⟨h, rfl⟩⟩
  | badChecksum n => exact .inr ⟨_, .inr (.inl ⟨n, h, rfl⟩)⟩
  | frame m n => exact .inr ⟨_, .inr (.inr ⟨m, n, h, rfl⟩)⟩

/-- A relation that holds of a state and itself and is carried along by every turn holds between a
state and its DEFRAME: the induction over DEFRAME's loop, once. -/
theorem deframe_induction (P : State → State → Prop) (refl : ∀ s, rxVerdict s = .needMoreData → P s s)
    (turn : ∀ s t u, DeframeTurn s t → P t u → P s u) (s : State) : P s (deframe s) := by
  suffices h : ∀ k s, s.fcb.rxbuf.length ≤ k → P s (deframeLoop k s) from h _ _ le_rfl
  intro k
  induction k with
  | zero =>
    intro s hs
    exact refl s (parse_needMoreData_of_short _ _ _ _ _ (by omega))
  | succ k ih =>
    intro s hs
    rcases deframeTurn_of_verdict s with h | ⟨t, ht⟩
    · rw [deframeLoop_stop h]; exact refl s h
    · rw [deframeLoop_turn ht]
      exact turn s t _ ht (ih t (by have := deframeTurn_shrinks ht; omega))

theorem deframe_of_needMoreData {s : State} (h : rxVerdict s = .needMoreData) : deframe s = s :=
  deframeLoop_stop h _

/-- DEFRAME ends when PARSE asks for more data (R156), in every state. -/
theorem rxVerdict_deframe (s : State) : rxVerdict (deframe s) = .needMoreData :=
  deframe_induction (fun _ t => rxVerdict t = .needMoreData) (fun _ h => h) (fun _ _ _ _ h => h) s

/-- `t` differs from `s` at most in RXBUF, the exchange's CST, TIMER and CONSEC_TO, the receive
counters, and the records emitted. -/
structure KeepsAllButReception (s t : State) : Prop where
  params : t.params = s.params
  en : t.fcb.en = s.fcb.en
  conf : t.fcb.conf = s.fcb.conf
  cfgErr : t.fcb.cfgErr = s.fcb.cfgErr
  cfgErrCause : t.fcb.cfgErrCause = s.fcb.cfgErrCause
  link : t.fcb.link = s.fcb.link
  forceReconnect : t.fcb.forceReconnect = s.fcb.forceReconnect
  seqWrap : t.fcb.seqWrap = s.fcb.seqWrap
  out : t.fcb.out = s.fcb.out
  txSeq : t.fcb.txSeq = s.fcb.txSeq
  reqq : t.fcb.reqq = s.fcb.reqq
  txq : t.fcb.txq = s.fcb.txq
  cntTx : t.fcb.cnt.tx = s.fcb.cnt.tx
  cntTimeout : t.fcb.cnt.timeout = s.fcb.cnt.timeout
  cntRxDiscard : t.fcb.cnt.rxDiscard = s.fcb.cnt.rxDiscard
  /-- Records are emitted, and nothing else happens at the ports. -/
  port : ∃ rs, t.port = (emitAll rs s).port

theorem KeepsAllButReception.refl (s : State) : KeepsAllButReception s s :=
  ⟨rfl, rfl, rfl, rfl, rfl, rfl, rfl, rfl, rfl, rfl, rfl, rfl, rfl, rfl, rfl, [], by simp [emitAll, push]⟩

theorem KeepsAllButReception.trans {s t u : State} (h : KeepsAllButReception s t)
    (k : KeepsAllButReception t u) : KeepsAllButReception s u := by
  obtain ⟨rs, hp⟩ := h.port
  obtain ⟨qs, kp⟩ := k.port
  exact ⟨k.params.trans h.params, k.en.trans h.en, k.conf.trans h.conf, k.cfgErr.trans h.cfgErr,
    k.cfgErrCause.trans h.cfgErrCause, k.link.trans h.link, k.forceReconnect.trans h.forceReconnect,
    k.seqWrap.trans h.seqWrap, k.out.trans h.out, k.txSeq.trans h.txSeq, k.reqq.trans h.reqq,
    k.txq.trans h.txq, k.cntTx.trans h.cntTx, k.cntTimeout.trans h.cntTimeout,
    k.cntRxDiscard.trans h.cntRxDiscard, rs ++ qs, by rw [kp]; simp [emitAll, push, hp]⟩

theorem deframeTurn_keeps {s t : State} (h : DeframeTurn s t) : KeepsAllButReception s t := by
  have none : s.port = (emitAll [] s).port := by simp [emitAll, push]
  rcases h with ⟨_, rfl⟩ | ⟨n, _, rfl⟩ | ⟨m, n, _, rfl⟩
  · exact ⟨rfl, rfl, rfl, rfl, rfl, rfl, rfl, rfl, rfl, rfl, rfl, rfl, rfl, rfl, rfl, [], none⟩
  · exact ⟨rfl, rfl, rfl, rfl, rfl, rfl, rfl, rfl, rfl, rfl, rfl, rfl, rfl, rfl, rfl, [], none⟩
  · rcases deliver_cases m (countRxOk (dropRx n s)) with ⟨_, e⟩ | ⟨_, e⟩ <;> rw [e] <;>
      exact ⟨rfl, rfl, rfl, rfl, rfl, rfl, rfl, rfl, rfl, rfl, rfl, rfl, rfl, rfl, rfl, _, rfl⟩

/-- DEFRAME leaves the configuration, the flags, the queues and the sequence number (R156 to R158,
R186). -/
theorem deframe_keeps (s : State) : KeepsAllButReception s (deframe s) :=
  deframe_induction KeepsAllButReception (fun s _ => .refl s)
    (fun _ _ _ h k => (deframeTurn_keeps h).trans k) s

/-! ### TICK -/

/-- What TICK does before SETTLE (R187). -/
theorem tickTimer_cases (s : State) :
    (s.fcb.cst = .idle ∧ tickTimer s = s)
    ∨ (s.fcb.cst = .wait ∧ timerPred s.fcb.timer ≠ 0#16
        ∧ tickTimer s = { s with fcb := { s.fcb with timer := timerPred s.fcb.timer } })
    ∨ (s.fcb.cst = .wait ∧ timerPred s.fcb.timer = 0#16
        ∧ tickTimer s = timeoutCompletion { s with fcb := { s.fcb with timer := 0#16 } }) := by
  cases hc : s.fcb.cst with
  | idle => exact .inl ⟨rfl, by simp [tickTimer, hc]⟩
  | wait =>
    by_cases h : timerPred s.fcb.timer = 0#16
    · exact .inr (.inr ⟨rfl, h, by simp [tickTimer, hc, h]⟩)
    · exact .inr (.inl ⟨rfl, h, by simp [tickTimer, hc, h]⟩)

/-! ### The strings of bytes -/

/-- Bytes to the panel are handed over one after the other if they stand at the head of TXQ, and
nothing happens if not. -/
theorem handBytes_cases (bs : List Byte) (s : State) :
    (bs <+: s.fcb.txq ∧ handBytes bs s = popBytes bs.length s)
    ∨ (¬ bs <+: s.fcb.txq ∧ handBytes bs s = s) := by
  by_cases h : bs <+: s.fcb.txq
  · exact .inl ⟨h, by simp [handBytes, List.isPrefixOf_iff_prefix.mpr h]⟩
  · exact .inr ⟨h, by simp [handBytes, mt List.isPrefixOf_iff_prefix.mp h]⟩

/-- `popBytes` is that many TX_POPs: the first, then the rest. -/
theorem popBytes_succ (n : Nat) (s : State) : popBytes (n + 1) s = popBytes n (popByte s) := rfl

/-- `receiveBytes` is one RX_BYTE per byte: the first, then the rest. -/
theorem receiveBytes_cons (b : Byte) (bs : List Byte) (s : State) :
    receiveBytes (b :: bs) s = receiveBytes bs (receiveByte b s) := rfl

end Sys2Proof.Machine
end

