-- ==== Sys2Proof/Laws/Fetch.lean ====
section
/-! SUPPORT. What sampling the REQ port and streaming a record can do, once each. -/

namespace Sys2Proof.Machine

/-- Sampling the REQ port does nothing, or accepts the first bytes that wait there, which end a
descriptor or not (R100, R194). -/
theorem sampleReq_cases (s : State) :
    ((s.port.reqWaiting = [] ∨ reqReady s = false) ∧ sampleReq s = (none, s))
    ∨ (∃ item rest, s.port.reqWaiting = item :: rest ∧ reqReady s = true ∧ item.last = true
      ∧ sampleReq s = (some (.req { bytes := s.port.reqPart ++ item.bytes, last := true }),
          { s with port := { s.port with reqWaiting := rest, reqPart := [] } }))
    ∨ (∃ item rest, s.port.reqWaiting = item :: rest ∧ reqReady s = true ∧ item.last = false
      ∧ sampleReq s = (none,
          { s with port := { s.port with
              reqWaiting := rest, reqPart := s.port.reqPart ++ item.bytes } })) := by
  cases hw : s.port.reqWaiting with
  | nil => exact .inl ⟨.inl rfl, by simp [sampleReq, hw]⟩
  | cons item rest =>
    cases hr : reqReady s with
    | false => exact .inl ⟨.inr rfl, by simp [sampleReq, hw, hr]⟩
    | true =>
      cases hl : item.last with
      | true => exact .inr (.inl ⟨item, rest, rfl, rfl, hl, by simp [sampleReq, hw, hr, hl, push]⟩)
      | false => exact .inr (.inr ⟨item, rest, rfl, rfl, hl, by simp [sampleReq, hw, hr, hl, push]⟩)

/-- Sampling the REQ port touches nothing of the block and nothing that was output. -/
theorem sampleReq_keeps (s : State) :
    (sampleReq s).2.params = s.params ∧ (sampleReq s).2.fcb = s.fcb
    ∧ (sampleReq s).2.port.inbox = s.port.inbox
    ∧ (sampleReq s).2.port.ctlTrace = s.port.ctlTrace
    ∧ (sampleReq s).2.port.cplTrace = s.port.cplTrace
    ∧ (sampleReq s).2.port.cplOut = s.port.cplOut ∧ (sampleReq s).2.port.cplSent = s.port.cplSent
    ∧ (sampleReq s).2.port.cplStream = s.port.cplStream
    ∧ (sampleReq s).2.port.txTrace = s.port.txTrace := by
  rcases sampleReq_cases s with ⟨_, e⟩ | ⟨_, _, _, _, _, e⟩ | ⟨_, _, _, _, _, e⟩ <;> rw [e] <;> simp

@[simp] theorem markLast_data (bs : List Byte) : (markLast bs).map (·.data) = bs := by
  induction bs with
  | nil => rfl
  | cons b bs ih => cases bs with
    | nil => rfl
    | cons c cs => simpa [markLast] using ih

@[simp] theorem markLast_length (bs : List Byte) : (markLast bs).length = bs.length := by
  rw [← List.length_map (f := (·.data)), markLast_data]

/-- A cycle of the CPL port offers nothing, or it offers the byte at hand, which the host gets exactly
if it takes it (R289). -/
theorem streamByte_cases (taken : Bool) (s : State) :
    (cplData s = none ∧ streamByte taken s = s)
    ∨ (∃ r rest lane, s.port.cplOut = r :: rest ∧ (cplLanes r)[s.port.cplSent]? = some lane
      ∧ streamByte taken s = { s with port := { s.port with
          cplOut := if lane.last then rest else r :: rest
          cplSent := if lane.last then 0 else s.port.cplSent + 1
          cplStream := s.port.cplStream ++ (if taken then [lane] else []) } }) := by
  cases ho : s.port.cplOut with
  | nil => exact .inl ⟨by simp [cplData, ho], by simp [streamByte, ho]⟩
  | cons r rest =>
    cases hl : (cplLanes r)[s.port.cplSent]? with
    | none => exact .inl ⟨by simp [cplData, ho, hl], by simp [streamByte, cplData, ho, hl]⟩
    | some lane =>
      refine .inr ⟨r, rest, lane, rfl, hl, ?_⟩
      cases taken <;> simp [streamByte, cplData, ho, hl, push]

/-- A cycle of the CPL port touches nothing of the block and nothing of the other ports. -/
theorem streamByte_keeps (taken : Bool) (s : State) :
    (streamByte taken s).params = s.params ∧ (streamByte taken s).fcb = s.fcb
    ∧ (streamByte taken s).port.inbox = s.port.inbox
    ∧ (streamByte taken s).port.reqWaiting = s.port.reqWaiting
    ∧ (streamByte taken s).port.reqPart = s.port.reqPart
    ∧ (streamByte taken s).port.ctlTrace = s.port.ctlTrace
    ∧ (streamByte taken s).port.cplTrace = s.port.cplTrace
    ∧ (streamByte taken s).port.txTrace = s.port.txTrace := by
  rcases streamByte_cases taken s with ⟨_, e⟩ | ⟨_, _, _, _, _, e⟩ <;> rw [e] <;> simp

end Sys2Proof.Machine
end

