-- ==== Sys2Proof/Laws/PerInstr.lean ====
section
/-! SUPPORT. Laws of the operations as syntax, one lemma per constructor of `Instr`. -/

namespace Sys2Proof.Laws

/-- The "format" column of `spec/opcode_table.json`; a strobe row is its wire. -/
inductive Format where
  | C
  | Q
  | P
  | W
  | rxLanes
  | txReadyWire
  | tickWire
  | rstWire
deriving DecidableEq, Repr

/-- The format of the wires a stimulus stands on (R90, R98 to R103). -/
def formatOf : PortEvent → Format
  | .ctl _ _ => .C
  | .req _ | .reqSample => .Q
  | .cpl _ | .cplByte _ => .P
  | .wire _ _ => .W
  | .rx _ => .rxLanes
  | .txReady _ => .txReadyWire
  | .tick _ => .tickWire
  | .rst _ => .rstWire

/-- The format the opcode table gives each row. -/
def tableFormat : Instr → Format
  | .nop | .csrRead _ | .csrWrite _ _ | .linkUp | .linkDown | .ctlReserved _ _ _ => .C
  | .send _ => .Q
  | .cplOk _ _ _ _ | .cplTimeout _ _ _ _ | .cplConnectionLost _ _ _ _ => .P
  | .cplNotConnected _ _ _ _ | .cplNotConfigured _ _ _ _ | .cplBadRequest _ _ _ _ => .P
  | .cplUnsolicited _ _ _ => .P
  | .frame _ _ _ _ _ => .W
  | .rxByte _ => .rxLanes
  | .txPop => .txReadyWire
  | .tick => .tickWire
  | .reset => .rstWire

end Sys2Proof.Laws

namespace Sys2Proof.Laws.EncodePort

/-- An operation is encoded on the wires its row of the opcode table names. -/
def Statement (i : Instr) : Prop := formatOf (encode i) = tableFormat i

theorem nop : Statement .nop := rfl
theorem csrRead (n : Byte) : Statement (.csrRead n) := rfl
theorem csrWrite (n : Byte) (v : Word) : Statement (.csrWrite n v) := rfl
theorem linkUp : Statement .linkUp := rfl
theorem linkDown : Statement .linkDown := rfl
theorem ctlReserved (op rsv : BitVec 4) (csrn : Byte) : Statement (.ctlReserved op rsv csrn) := rfl
theorem send (desc : List Byte) : Statement (.send desc) := rfl
theorem cplOk (tag : BitVec 4) (ty : Byte) (seq : Half) (payload : List Byte) :
    Statement (.cplOk tag ty seq payload) := rfl
theorem cplTimeout (tag : BitVec 4) (ty : Byte) (seq : Half) (payload : List Byte) :
    Statement (.cplTimeout tag ty seq payload) := rfl
theorem cplConnectionLost (tag : BitVec 4) (ty : Byte) (seq : Half) (payload : List Byte) :
    Statement (.cplConnectionLost tag ty seq payload) := rfl
theorem cplNotConnected (tag : BitVec 4) (ty : Byte) (seq : Half) (payload : List Byte) :
    Statement (.cplNotConnected tag ty seq payload) := rfl
theorem cplNotConfigured (tag : BitVec 4) (ty : Byte) (seq : Half) (payload : List Byte) :
    Statement (.cplNotConfigured tag ty seq payload) := rfl
theorem cplBadRequest (tag : BitVec 4) (ty : Byte) (seq : Half) (payload : List Byte) :
    Statement (.cplBadRequest tag ty seq payload) := rfl
theorem cplUnsolicited (ty : Byte) (seq : Half) (payload : List Byte) :
    Statement (.cplUnsolicited ty seq payload) := rfl
theorem frame (dir : Dir) (ty : Byte) (seq : Half) (body csum : List Byte) :
    Statement (.frame dir ty seq body csum) := rfl
theorem rxByte (b : Byte) : Statement (.rxByte b) := rfl
theorem txPop : Statement .txPop := rfl
theorem tick : Statement .tick := rfl
theorem reset : Statement .reset := rfl

end Sys2Proof.Laws.EncodePort
end

