-- ==== Sys2Proof/Laws/StandIn.lean ====
section
/-! SUPPORT. The stand-in keystream `KS_REF` of `spec/40_cipher.md` R138, which "a model must keep
... out of its trusted definitions": no definition of the machine and no statement for the provers
uses it, only the vectors of `spec/95_test_vectors.md` do. It is not the panel's cipher. -/

namespace Sys2Proof.Laws

open Sys2Proof.Machine

/-- `s` of R138: the sum of the counter block's bytes weighted 1 to 8, modulo 256. -/
def ksRefSum (cb : Block) : Byte :=
  cb.b0 + 2#8 * cb.b1 + 3#8 * cb.b2 + 4#8 * cb.b3 + 5#8 * cb.b4 + 6#8 * cb.b5 + 7#8 * cb.b6
    + 8#8 * cb.b7

/-- `KS_REF(key, cb)` (R138): byte `j` is `((key[j] + s + j) mod 256) xor cb[7 - j]`. -/
def ksRef : KeyStream := fun key cb =>
  let s := ksRefSum cb
  { b0 := (key.b0 + s) ^^^ cb.b7, b1 := (key.b1 + s + 1#8) ^^^ cb.b6
    b2 := (key.b2 + s + 2#8) ^^^ cb.b5, b3 := (key.b3 + s + 3#8) ^^^ cb.b4
    b4 := (key.b4 + s + 4#8) ^^^ cb.b3, b5 := (key.b5 + s + 5#8) ^^^ cb.b2
    b6 := (key.b6 + s + 6#8) ^^^ cb.b1, b7 := (key.b7 + s + 7#8) ^^^ cb.b0 }

/-- The weighted sum on natural numbers, as the first line of R138's pseudocode has it. -/
theorem ksRefSum_toNat (cb : Block) :
    (ksRefSum cb).toNat = (1 * cb.b0.toNat + 2 * cb.b1.toNat + 3 * cb.b2.toNat + 4 * cb.b3.toNat
      + 5 * cb.b4.toNat + 6 * cb.b5.toNat + 7 * cb.b6.toNat + 8 * cb.b7.toNat) % 256 := by
  simp [ksRefSum, BitVec.toNat_add, BitVec.toNat_mul]

/-- The loop of R138's pseudocode, for each of the eight bytes. -/
theorem ksRef_byte (key cb : Block) (j : Nat) (hj : j < 8) :
    blockByte (ksRef key cb) j
      = BitVec.ofNat 8 (((blockByte key j).toNat + (ksRefSum cb).toNat + j) % 256)
        ^^^ blockByte cb (7 - j) := by
  interval_cases j <;> simp only [ksRef, blockByte] <;> congr 1 <;>
    exact BitVec.eq_of_toNat_eq (by simp [BitVec.toNat_add])

end Sys2Proof.Laws
end

