-- ==== Sys2Proof/Tests/Slice0.lean ====
section
/-! SUPPORT. Tests: expected results are the vectors of `spec/95_test_vectors.md` (named in each
comment) or written by hand from the rules; and, for every statement with hypotheses, a concrete
state and operands that meet them together (`witness_…`). -/

namespace Sys2Proof.Tests

open Sys2Proof.Machine Sys2Proof.Laws

/-! ### Helpers -/

/-- Bytes from numbers. -/
def bytes (l : List Nat) : List Byte := l.map (BitVec.ofNat 8)

/-- A whole descriptor on the REQ port. -/
def whole (l : List Nat) : ReqItem := { bytes := bytes l, last := true }

/-- The state a step answers, if it answers one. -/
def after (o : Host.Outcome State Fault Refusal) : Option State :=
  match o with
  | .next t => some t
  | .fault _ => none
  | .refused _ => none

/-- The key K of the vectors, "ALPHA123". -/
def keyK : Block :=
  { b0 := 0x41#8, b1 := 0x4C#8, b2 := 0x50#8, b3 := 0x48#8
    b4 := 0x41#8, b5 := 0x31#8, b6 := 0x32#8, b7 := 0x33#8 }

/-- No key, ADD8, `MATCH_MODE = 3`, `REQ_TIMEOUT = 5`. -/
def conf : ConnConfig := { ConnConfig.reset with matchMode := 3#2, reqTimeout := 5#16 }

/-- `conf` with another checksum algorithm and key length, and the key K. -/
def confWith (keyLen : BitVec 4) (alg : BitVec 2) : ConnConfig :=
  { conf with keyLen := keyLen, csumAlg := alg, key := keyK }

/-- Enabled, not linked. -/
def enabled : State := { State.reset with fcb := { Fcb.reset with en := true, conf := conf } }

/-- Enabled and linked, no exchange. -/
def linked : State := { enabled with fcb := { enabled.fcb with link := true } }

/-- Vector M1's state: an exchange is outstanding, nothing left in TXQ. -/
def waiting : State :=
  { linked with fcb := { linked.fcb with
      cst := .wait, timer := 3#16, out := { tag := 3#4, ty := 0x40#8, expTy := 0x41#8, seq := 0x0103#16 } } }

/-- The last tick of `waiting`. -/
def expiring : State := { waiting with fcb := { waiting.fcb with timer := 1#16 } }

/-- A request without payload; its frame is 6 bytes. -/
def request : Descriptor := { tag := 1#4, ty := 0x20#8, expTy := 0x21#8, timeout := 0#16, payload := [] }

/-- `s` with these requests queued. -/
def queue (ds : List Descriptor) (s : State) : State := { s with fcb := { s.fcb with reqq := ds } }

/-- `s` with these bytes unsent. -/
def unsent (bs : List Byte) (s : State) : State := { s with fcb := { s.fcb with txq := bs } }

/-- `s` with these bytes received. -/
def received (bs : List Byte) (s : State) : State := { s with fcb := { s.fcb with rxbuf := bs } }

/-- `s` with these stimuli waiting. -/
def presenting (es : List PortEvent) (s : State) : State :=
  { s with port := { s.port with inbox := es } }

/-- The smallest legal parameters: TXQ holds one frame of 7 bytes. -/
def tiny (s : State) : State := { s with params := { maxPayload := 0, qdepth := 1, txqBytes := 7 } }

/-- `s` with these bytes held on the REQ port. -/
def holdingReq (items : List ReqItem) (s : State) : State :=
  { s with port := { s.port with reqWaiting := items } }

/-- `waiting` with REQQ full. -/
def full : State := queue [request, request, request, request] waiting

/-- All but the last byte, `46`, of the response of vector M1: TYPE 0x41, SEQ 0x0103, payload `00`. -/
def almost : List Byte := bytes [0x00, 0x01, 0x41, 0x01, 0x03, 0x00]

/-- The message of vector M1. -/
def answerM1 : Message := { ty := 0x41#8, seq := 0x0103#16, payload := [0x00#8] }

/-- The message of vector M2 (another SEQ); its frame ends in `45`. -/
def lateM2 : Message := { ty := 0x41#8, seq := 0x0102#16, payload := [0x00#8] }

/-! ### WellFormed: an ill-formed term for each check -/

theorem test_wf_refuses_reserved_word_of_another_row :
    (Instr.ctlReserved 0#4 0#4 0#8).wf = false ∧ (Instr.ctlReserved 1#4 0#4 5#8).wf = false
    ∧ (Instr.ctlReserved 4#4 0#4 0#8).wf = false := by decide

theorem test_wf_refuses_empty_descriptor : (Instr.send []).wf = false := by decide

theorem test_wf_refuses_tag_15_of_a_request :
    (Instr.cplOk 15#4 0#8 0#16 []).wf = false ∧ (Instr.cplTimeout 15#4 0#8 0#16 []).wf = false
    ∧ (Instr.cplConnectionLost 15#4 0#8 0#16 []).wf = false
    ∧ (Instr.cplNotConnected 15#4 0#8 0#16 []).wf = false
    ∧ (Instr.cplNotConfigured 15#4 0#8 0#16 []).wf = false := by decide

theorem test_wf_refuses_payload_where_plen_is_0 :
    (Instr.cplTimeout 0#4 0#8 0#16 [0#8]).wf = false
    ∧ (Instr.cplConnectionLost 0#4 0#8 0#16 [0#8]).wf = false
    ∧ (Instr.cplNotConnected 0#4 0#8 0#16 [0#8]).wf = false
    ∧ (Instr.cplNotConfigured 0#4 0#8 0#16 [0#8]).wf = false
    ∧ (Instr.cplBadRequest 0#4 0#8 0#16 [0#8]).wf = false := by decide

theorem test_wf_refuses_seq_of_an_unsent_request :
    (Instr.cplNotConnected 0#4 0#8 1#16 []).wf = false
    ∧ (Instr.cplNotConfigured 0#4 0#8 1#16 []).wf = false
    ∧ (Instr.cplBadRequest 0#4 0#8 1#16 []).wf = false := by decide

theorem test_wf_refuses_checksum_of_0_or_3_bytes :
    (Instr.frame .toPanel 0#8 0#16 [] []).wf = false
    ∧ (Instr.frame .toPanel 0#8 0#16 [] (bytes [1, 2, 3])).wf = false := by decide

theorem test_wf_refuses_payload_over_16_bits :
    (Instr.cplOk 0#4 0#8 0#16 (List.replicate 65536 0#8)).wf = false
    ∧ (Instr.cplUnsolicited 0#8 0#16 (List.replicate 65536 0#8)).wf = false
    ∧ (Instr.frame .toPanel 0#8 0#16 (List.replicate 65536 0#8) [0#8]).wf = false := by
  simp only [Instr.wf, plenFits, frameShape, List.length_replicate]; decide

/-! ### Decode: the words of every row, bit by bit from its encoding -/

theorem test_decode_nop : decode (.ctl 0b0000000000000000#16 0#32) = .ok .nop := by rfl

theorem test_decode_csrRead :
    decode (.ctl 0b0001000000011000#16 0#32) = .ok (.csrRead 0x18#8) := by rfl

theorem test_decode_csrWrite :
    decode (.ctl 0b0010000000000011#16 0x414C5048#32) = .ok (.csrWrite 0x03#8 0x414C5048#32) := by rfl

theorem test_decode_linkUp : decode (.ctl 0b0011000000000000#16 0#32) = .ok .linkUp := by rfl

theorem test_decode_linkDown : decode (.ctl 0b0100000000000000#16 0#32) = .ok .linkDown := by rfl

/-- Vector CT2's words. -/
theorem test_decode_ctlReserved :
    decode (.ctl 0x5000#16 0#32) = .ok (.ctlReserved 5#4 0#4 0#8)
    ∧ decode (.ctl 0x0100#16 0#32) = .ok (.ctlReserved 0#4 1#4 0#8)
    ∧ decode (.ctl 0x1105#16 0#32) = .ok (.ctlReserved 1#4 1#4 5#8)
    ∧ decode (.ctl 0x3001#16 0#32) = .ok (.ctlReserved 3#4 0#4 1#8)
    ∧ decode (.ctl 0x4080#16 0#32) = .ok (.ctlReserved 4#4 0#4 0x80#8)
    ∧ decode (.ctl 0xFFFF#16 0#32) = .ok (.ctlReserved 15#4 15#4 0xFF#8) :=
  ⟨rfl, rfl, rfl, rfl, rfl, rfl⟩

theorem test_decode_send :
    decode (.req (whole [0x01, 0x10, 0x11, 0, 0, 0, 0, 2, 1, 2]))
      = .ok (.send (bytes [0x01, 0x10, 0x11, 0, 0, 0, 0, 2, 1, 2])) := by rfl

/-- The record encodings under the table of vectors DE. -/
theorem test_decode_records :
    decode (.cpl (bytes [0x01, 0x11, 0, 0, 0, 3, 0xAA, 0xBB, 0xCC]))
      = .ok (.cplOk 1#4 0x11#8 0#16 (bytes [0xAA, 0xBB, 0xCC]))
    ∧ decode (.cpl (bytes [0x12, 0x31, 0x01, 0x02, 0, 0])) = .ok (.cplTimeout 2#4 0x31#8 0x0102#16 [])
    ∧ decode (.cpl (bytes [0x24, 0x24, 0, 0, 0, 0])) = .ok (.cplConnectionLost 4#4 0x24#8 0#16 [])
    ∧ decode (.cpl (bytes [0x35, 0x20, 0, 0, 0, 0])) = .ok (.cplNotConnected 5#4 0x20#8 0#16 [])
    ∧ decode (.cpl (bytes [0x41, 0x10, 0, 0, 0, 0])) = .ok (.cplNotConfigured 1#4 0x10#8 0#16 [])
    ∧ decode (.cpl (bytes [0x5F, 0x77, 0, 0, 0, 0])) = .ok (.cplBadRequest 15#4 0x77#8 0#16 [])
    ∧ decode (.cpl (bytes [0x8F, 0x32, 0x01, 0x02, 0, 2, 0xDE, 0xAD]))
      = .ok (.cplUnsolicited 0x32#8 0x0102#16 (bytes [0xDE, 0xAD])) :=
  ⟨rfl, rfl, rfl, rfl, rfl, rfl, rfl⟩

theorem test_decode_record_refusals :
    decode (.cpl (bytes [0x61, 0, 0, 0, 0, 0])) = .error (.recordStatusReserved 6#4)
    ∧ decode (.cpl (bytes [0x81, 0, 0, 0, 0, 0])) = .error .unsolicitedTagNot15
    ∧ decode (.cpl (bytes [0x01, 0, 0, 0, 0, 1])) = .error .recordLengthMismatch
    ∧ decode (.cpl (bytes [0x01, 0, 0, 0, 0])) = .error .recordTooShort := ⟨rfl, rfl, rfl, rfl⟩

/-- Vectors E1 (ADD8) and E3b (CRC16) as whole frames. -/
theorem test_decode_frame :
    decode (.wire .toPanel (bytes [0, 2, 0x10, 0, 0, 1, 2, 0x15]))
      = .ok (.frame .toPanel 0x10#8 0#16 (bytes [1, 2]) [0x15#8])
    ∧ decode (.wire .fromPanel (bytes [0, 0, 0x20, 0x12, 0x34, 0x84, 0x0C]))
      = .ok (.frame .fromPanel 0x20#8 0x1234#16 [] (bytes [0x84, 0x0C])) := ⟨rfl, rfl⟩

theorem test_decode_frame_refusals :
    decode (.wire .toPanel (bytes [0, 2, 0x10, 0, 0, 1, 2])) = .error .frameLengthMismatch
    ∧ decode (.wire .toPanel (bytes [0, 2, 0x10, 0])) = .error .frameTooShort := ⟨rfl, rfl⟩

theorem test_decode_strobes :
    decode (.rx 0b101010101#9) = .ok (.rxByte 0x55#8) ∧ decode (.txReady 1#1) = .ok .txPop
    ∧ decode (.tick 1#1) = .ok .tick ∧ decode (.rst 1#1) = .ok .reset
    ∧ decode (.rx 0b001010101#9) = .error .strobeLow := ⟨rfl, rfl, rfl, rfl, rfl⟩

/-! ### Cipher (95_test_vectors.md 2.1) -/

/-- X2 to X4. -/
theorem test_ctrblk :
    blockBytes (ctrblk .fromPanel 0x0102#16 0#16) = bytes [1, 0, 1, 2, 0, 0, 0, 0]
    ∧ blockBytes (ctrblk .toPanel 0x0102#16 1#16) = bytes [0, 0, 1, 2, 0, 0, 0, 1]
    ∧ blockBytes (ctrblk .toPanel 0xFFFF#16 0x1FFF#16) = bytes [0, 0, 0xFF, 0xFF, 0, 0, 0x1F, 0xFF] := by
  decide

/-- K1, K4, K7, K8: the stand-in is the spec's, `s` among them (K4: 0x0B, K8: 0xCA). -/
theorem test_ksRef :
    blockBytes (ksRef keyK (ctrblk .toPanel 0#16 0#16))
      = bytes [0x41, 0x4D, 0x52, 0x4B, 0x45, 0x36, 0x38, 0x3A]
    ∧ ksRefSum (ctrblk .toPanel 0x0102#16 0#16) = 0x0B#8
    ∧ blockBytes (ksRef keyK (ctrblk .toPanel 0x0102#16 0#16))
      = bytes [0x4C, 0x58, 0x5D, 0x56, 0x52, 0x40, 0x43, 0x45]
    ∧ blockBytes (ksRef keyK (ctrblk .fromPanel 0x0102#16 1#16))
      = bytes [0x54, 0x61, 0x66, 0x5F, 0x5B, 0x4B, 0x4C, 0x4F]
    ∧ ksRefSum (ctrblk .toPanel 0xFFFF#16 0x1FFF#16) = 0xCA#8
    ∧ blockBytes (ksRef keyK (ctrblk .toPanel 0xFFFF#16 0x1FFF#16))
      = bytes [0xF4, 0x08, 0x1C, 0x15, 0xF0, 0xFF, 0x02, 0x04] := by decide

/-- X7 and X8: one full block and one of three bytes, in both directions. -/
theorem test_crypt :
    let p := bytes [0x10, 0x11, 0x12, 0x13, 0x14, 0x15, 0x16, 0x17, 0x18, 0x19, 0x1A]
    crypt ksRef keyK .toPanel 0x0102#16 p
      = bytes [0x5C, 0x49, 0x4F, 0x45, 0x46, 0x55, 0x55, 0x52, 0x4D, 0x79, 0x7F]
    ∧ crypt ksRef keyK .fromPanel 0x0102#16 p
      = bytes [0x5D, 0x48, 0x4C, 0x44, 0x47, 0x56, 0x52, 0x50, 0x4C, 0x78, 0x7C] := by decide

/-! ### Checksums (2.2) -/

/-- CK1, CK3, CK5, CK6, CK7 under ADD8. -/
theorem test_add8 :
    csum 0#2 [] = bytes [0x00] ∧ csum 0#2 (bytes [0xFF, 0x01]) = bytes [0x00]
    ∧ csum 0#2 (bytes [0x31, 0x32, 0x33, 0x34, 0x35, 0x36, 0x37, 0x38, 0x39]) = bytes [0xDD]
    ∧ csum 0#2 (bytes [0, 2, 0x10, 0, 0, 1, 2]) = bytes [0x15]
    ∧ csum 0#2 (bytes [0, 2, 0x10, 0, 0, 2, 1]) = bytes [0x15] := by decide

/-- CK1, CK2, CK5, CK6, CK7 under CRC16. -/
theorem test_crc16 :
    csum 1#2 [] = bytes [0xFF, 0xFF] ∧ csum 1#2 (bytes [0]) = bytes [0xE1, 0xF0]
    ∧ csum 1#2 (bytes [0x31, 0x32, 0x33, 0x34, 0x35, 0x36, 0x37, 0x38, 0x39]) = bytes [0x29, 0xB1]
    ∧ csum 1#2 (bytes [0, 2, 0x10, 0, 0, 1, 2]) = bytes [0x6D, 0xA7]
    ∧ csum 1#2 (bytes [0, 2, 0x10, 0, 0, 2, 1]) = bytes [0x08, 0x97] := by decide +kernel

/-! ### ENCODE and PARSE (2.3, 2.4) -/

/-- E4b and E5. -/
theorem test_encodeFrame :
    let m : Message :=
      { ty := 0x31#8, seq := 0x0102#16
        payload := bytes [0x10, 0x11, 0x12, 0x13, 0x14, 0x15, 0x16, 0x17, 0x18, 0x19, 0x1A] }
    encodeFrame ksRef (confWith 8#4 1#2) m .toPanel
      = bytes [0x00, 0x0B, 0x31, 0x01, 0x02, 0x5C, 0x49, 0x4F, 0x45, 0x46, 0x55, 0x55, 0x52, 0x4D, 0x79,
          0x7F, 0xCF, 0x33]
    ∧ encodeFrame ksRef (confWith 8#4 1#2) m .fromPanel
      = bytes [0x00, 0x0B, 0x31, 0x01, 0x02, 0x5D, 0x48, 0x4C, 0x44, 0x47, 0x56, 0x52, 0x50, 0x4C, 0x78,
          0x7C, 0xCF, 0x33] := by decide +kernel

/-- Q3 to Q8, Q13. -/
theorem test_parse_cleartext :
    let parse := fun l => parse ksRef Params.default (confWith 0#4 0#2) (bytes l) .fromPanel
    parse [0, 2, 0x10, 0, 0, 1, 2, 0x15, 0, 2, 0x10, 0, 0, 1, 2, 0x15]
      = .frame { ty := 0x10#8, seq := 0#16, payload := bytes [1, 2] } 8
    ∧ parse [0, 2, 0x10, 0, 0, 0, 2, 0x15] = .badChecksum 8
    ∧ parse [0, 2, 0x10, 0, 0, 1, 2, 0x14] = .badChecksum 8
    ∧ parse [0, 2, 0x11, 0, 0, 1, 2, 0x15] = .badChecksum 8
    ∧ parse [4, 1, 0, 0, 0] = .badLength ∧ parse [4, 0, 0, 0, 0] = .needMoreData
    ∧ parse [0, 0, 0x20, 0x12, 0x34, 0x66] = .frame { ty := 0x20#8, seq := 0x1234#16, payload := [] } 6 := by
  decide

/-- Q10, Q11, Q12: the right direction and key, the wrong direction, the wrong key. -/
theorem test_parse_encrypted :
    let e11 := bytes [0, 9, 0x32, 1, 2, 0x93, 0xF4, 0xE0, 0xB8, 0x53, 0x42, 0x46, 0x44, 0x50, 0x80]
    parse ksRef Params.default (confWith 8#4 0#2) e11 .fromPanel
      = .frame { ty := 0x32#8, seq := 0x0102#16
                 payload := bytes [0xDE, 0xAD, 0xBE, 0xEF, 0, 1, 2, 3, 4] } 15
    ∧ parse ksRef Params.default (confWith 8#4 0#2) e11 .toPanel = .badChecksum 15
    ∧ parse ksRef Params.default { confWith 8#4 0#2 with key := { keyK with b7 := 0x34#8 } } e11 .fromPanel
      = .badChecksum 15 := by decide +kernel

/-! ### Descriptors and records (2.5) -/

/-- DE2, DE3. -/
theorem test_decodeDesc_good :
    decodeDesc Params.default (bytes [3, 0x40, 0x41, 0, 0, 4, 0, 3, 1, 0x12, 0x34])
      = .good { tag := 3#4, ty := 0x40#8, expTy := 0x41#8, timeout := 4#16, payload := bytes [1, 0x12, 0x34] }
    ∧ decodeDesc Params.default (bytes [0x0E, 0x20, 0x21, 0, 0xFF, 0xFF, 0, 0])
      = .good { tag := 14#4, ty := 0x20#8, expTy := 0x21#8, timeout := 65535#16, payload := [] } := by
  decide

/-- DE4 to DE8, DE10, DE11. -/
theorem test_decodeDesc_bad :
    let dec := fun l => decodeDesc Params.default (bytes l)
    dec [0x11, 0, 0, 0, 0, 0, 0, 0] = .bad 1#4 0#8
    ∧ dec [0x0F, 0x77, 0, 0, 0, 0, 0, 0] = .bad 15#4 0x77#8
    ∧ dec [0x01, 0x77, 0, 0, 0, 0, 0, 1] = .bad 1#4 0x77#8 ∧ dec [0x01, 0x77] = .bad 1#4 0x77#8
    ∧ dec [0x01, 0x77, 0, 1, 0, 0, 0, 0] = .bad 1#4 0x77#8
    ∧ dec [0x01, 0x77, 0, 0, 0, 0, 0, 0, 0xAA] = .bad 1#4 0x77#8
    ∧ dec [0x05] = .bad 5#4 0#8 := by decide

/-- The record encodings under the table of vectors DE. -/
theorem test_cplBytes :
    cplBytes { status := .timeout, tag := 2#4, ty := 0x31#8, seq := 0x0102#16, payload := [] }
      = bytes [0x12, 0x31, 0x01, 0x02, 0, 0]
    ∧ cplBytes { status := .unsolicited, tag := 15#4, ty := 0x32#8, seq := 0x0102#16, payload := bytes [0xDE, 0xAD] }
      = bytes [0x8F, 0x32, 0x01, 0x02, 0, 2, 0xDE, 0xAD] := by decide

/-! ### Steps (2.6, 2.7) -/

/-- The CTL response of one command. -/
def response (i : Instr) (s : State) : Option (List CtlResponse) :=
  (after (exec i s)).map (·.port.ctlTrace)

/-- The records of one operation. -/
def records (i : Instr) (s : State) : Option (List CplRecord) :=
  (after (exec i s)).map (·.port.cplTrace)

/-- The block after one operation. -/
def block (i : Instr) (s : State) : Option Fcb := (after (exec i s)).map (·.fcb)

/-- CT1. -/
theorem test_nop : after (exec .nop waiting) = some (answered waiting .ok 0#32) := by decide

/-- CT3, CT4, and STATUS of P1 with an exchange outstanding. -/
theorem test_csrRead :
    response (.csrRead 0x01#8) State.reset = some [{ status := .ok, rdata := 0#32 }]
    ∧ response (.csrRead 0x0B#8) State.reset = some [{ status := .badCsr, rdata := 0#32 }]
    ∧ response (.csrRead 0x17#8) State.reset = some [{ status := .badCsr, rdata := 0#32 }]
    ∧ response (.csrRead 0x01#8) waiting = some [{ status := .ok, rdata := 0x0003000D#32 }]
    ∧ response (.csrRead 0x0A#8) waiting = some [{ status := .ok, rdata := 0x41400103#32 }] := by decide

/-- CT5, CT7, CT8: reserved bits are dropped. -/
theorem test_csrWrite_stores :
    (block (.csrWrite 0x02#8 0xFFFFFFFF#32) State.reset).map (cfgWord ·.conf) = some 0x3FF#32
    ∧ (block (.csrWrite 0x05#8 0x12345678#32) State.reset).map (·.conf.reqTimeout) = some 0x5678#16
    ∧ (block (.csrWrite 0x06#8 0x103#32) State.reset).map (·.conf.toLimit) = some 3#8 := by decide

/-- The first lines of P4: the enable attempt on the reset configuration, then LOCKED (CT11). -/
theorem test_csrWrite_ctrl :
    (block (.csrWrite 0x00#8 1#32) State.reset).map statusWord = some 0x302#32
    ∧ after (exec (.csrWrite 0x02#8 0#32) enabled) = some (answered enabled .locked 0#32)
    ∧ (block (.csrWrite 0x00#8 1#32) { enabled with fcb := { enabled.fcb with en := false } }).map (·.en)
      = some true := by decide

/-- L3, and BAD_STATE of P4. -/
theorem test_linkUp :
    response .linkUp State.reset = some [{ status := .notConfigured, rdata := 0#32 }]
    ∧ (block .linkUp enabled).map (·.link) = some true
    ∧ response .linkUp linked = some [{ status := .badState, rdata := 0#32 }] := by decide

/-- The LINKDOWN of P3: the outstanding request first, with its SEQ, then the queued one with SEQ 0. -/
theorem test_linkDown :
    records .linkDown (queue [request] waiting) = some
      [{ status := .connectionLost, tag := 3#4, ty := 0x40#8, seq := 0x0103#16, payload := [] },
       { status := .connectionLost, tag := 1#4, ty := 0x20#8, seq := 0#16, payload := [] }]
    ∧ (block .linkDown (queue [request] waiting)).map (fun f => (f.link, f.cst, f.reqq)) =
      some (false, .idle, []) := by decide

/-- CT2. -/
theorem test_ctlReserved :
    after (exec (.ctlReserved 5#4 0#4 0#8) waiting) = some (answered waiting .badOp 0#32) := by decide

/-- The first SEND of P1: ISSUE in the same operation, with the frame E1. -/
theorem test_send_issues :
    (block (.send (bytes [1, 0x10, 0x11, 0, 0, 0, 0, 2, 1, 2])) linked).map
      (fun f => (f.txq, f.timer, f.cst, f.txSeq, f.out)) =
      some (bytes [0, 2, 0x10, 0, 0, 1, 2, 0x15], 5#16, .wait, 1#16,
        { tag := 1#4, ty := 0x10#8, expTy := 0x11#8, seq := 0#16 }) := by decide

/-- DE4's record, the NOT_CONNECTED of P3, and B1: with the queue full the descriptor waits. -/
theorem test_send_refusals :
    records (.send (bytes [0x11, 0, 0, 0, 0, 0, 0, 0])) enabled = some
      [{ status := .badRequest, tag := 1#4, ty := 0#8, seq := 0#16, payload := [] }]
    ∧ records (.send (bytes [5, 0x20, 0x21, 0, 0, 0, 0, 0])) enabled = some
      [{ status := .notConnected, tag := 5#4, ty := 0x20#8, seq := 0#16, payload := [] }]
    ∧ after (exec (.send (bytes [5, 0x20, 0x21, 0, 0, 0, 0, 0]))
        (queue [request, request, request, request] waiting))
      = some (holdingReq [whole [5, 0x20, 0x21, 0, 0, 0, 0, 0]]
        (queue [request, request, request, request] waiting)) := by decide

/-- `s` with one record emitted and not taken. -/
def holding (r : CplRecord) (s : State) : State := withRecords s [r]

/-- A record crosses as the row of its status code and as no other. -/
theorem test_records_cross :
    let r : CplRecord := { status := .timeout, tag := 2#4, ty := 0x31#8, seq := 0x0102#16, payload := [] }
    (after (exec (.cplTimeout 2#4 0x31#8 0x0102#16 []) (holding r linked))).map
      (fun t => (t.port.cplOut, t.port.cplStream.map (·.data)))
      = some ([], bytes [0x12, 0x31, 0x01, 0x02, 0, 0])
    ∧ after (exec (.cplOk 2#4 0x31#8 0x0102#16 []) (holding r linked)) = some (holding r linked) := by
  decide

/-- The RX of P1 as one frame: TYPE 0x11, SEQ 0, `AA BB CC`, checksum 45. -/
theorem test_frame_fromPanel :
    records (.frame .fromPanel 0x41#8 0x0103#16 [0#8] [0x46#8]) waiting = some
      [{ status := .ok, tag := 3#4, ty := 0x41#8, seq := 0x0103#16, payload := [0#8] }] := by decide

/-- The TXPOP 8 of P1 as one frame. -/
theorem test_frame_toPanel :
    let s := unsent (bytes [0, 2, 0x10, 0, 0, 1, 2, 0x15]) waiting
    (after (exec (.frame .toPanel 0x10#8 0#16 (bytes [1, 2]) [0x15#8]) s)).map
      (fun t => (t.fcb.txq, t.port.txTrace)) = some ([], bytes [0, 2, 0x10, 0, 0, 1, 2, 0x15]) := by
  decide

/-- M1 and M2: the last byte of the response. -/
theorem test_rxByte_completes :
    records (.rxByte 0x46#8) (received almost waiting) = some
      [{ status := .ok, tag := 3#4, ty := 0x41#8, seq := 0x0103#16, payload := [0#8] }]
    ∧ (block (.rxByte 0x46#8) (received almost waiting)).map (fun f => (f.cst, f.timer, f.rxbuf))
      = some (.idle, 0#16, []) := by decide

/-- M6: two bytes of the request left in TXQ, so the same response is UNSOLICITED. -/
theorem test_rxByte_unsolicited :
    let s := unsent (bytes [0x96, 0xD7]) (received almost waiting)
    records (.rxByte 0x46#8) s = some
      [{ status := .unsolicited, tag := 15#4, ty := 0x41#8, seq := 0x0103#16, payload := [0#8] }]
    ∧ (block (.rxByte 0x46#8) s).map (fun f => (f.cst, f.timer, f.cnt.unsol)) = some (.wait, 3#16, 1#32) := by
  decide

/-- R161: one byte leaves; nothing happens on an empty TXQ. -/
theorem test_txPop :
    (after (exec .txPop (unsent (bytes [0x96, 0xD7]) waiting))).map
      (fun t => (t.fcb.txq, t.port.txTrace)) = some (bytes [0xD7], bytes [0x96])
    ∧ after (exec .txPop waiting) = some waiting := by decide

/-- T1 and T2. -/
theorem test_tick :
    (block .tick waiting).map (fun f => (f.timer, f.cst)) = some (2#16, .wait)
    ∧ after (exec .tick linked) = some linked := by decide

/-- T4: the count saturates at 255 and reaches the limit 255. -/
theorem test_tick_expires :
    let s := { expiring with fcb := { expiring.fcb with
      consecTo := 254#8, conf := { expiring.fcb.conf with toLimit := 255#8 } } }
    records .tick s = some
      [{ status := .timeout, tag := 3#4, ty := 0x40#8, seq := 0x0103#16, payload := [] }]
    ∧ (block .tick s).map (fun f => (f.consecTo, f.forceReconnect, f.cst)) = some (255#8, true, .idle) := by
  decide

/-- P6: RESET in the middle of an exchange emits nothing. -/
theorem test_reset :
    (after (exec .reset (received almost (queue [request] waiting)))).map (fun t => (t.fcb, t.port.cplTrace))
      = some (Fcb.reset, []) := by decide

/-- R289, R281: RESET in the middle of a record cuts it short; nothing of it is streamed afterwards. -/
theorem test_reset_cuts_a_record_short :
    let r : CplRecord := { status := .timeout, tag := 2#4, ty := 0x31#8, seq := 0x0102#16, payload := [] }
    (after (Host.Core.run core 3
        (presenting [.cplByte true, .rst 1#1, .cplByte true] (holding r linked)))).map
      (fun t => (t.port.cplStream, t.port.cplOut)) = some ([{ data := 0x12#8, last := false }], []) := by
  decide

/-- R289: a byte the host does not take in the cycle it is offered is lost; the next one follows. -/
theorem test_byte_not_taken_is_lost :
    let r : CplRecord := { status := .timeout, tag := 2#4, ty := 0x31#8, seq := 0x0102#16, payload := [] }
    let idle := fun taken : Bool =>
      ({ rst := false, ctl := none, rx := none, tick := false, req := none, txReady := false
         cplTaken := taken } : CycleInputs)
    ((after (runCycle (idle false) (holding r linked))).bind fun t => after (runCycle (idle true) t)).map
      (fun t => (t.port.cplStream, t.port.cplSent)) = some ([{ data := 0x31#8, last := false }], 2) := by
  decide

/-- R77: a descriptor held while TX_POP freed no place in time is sampled only once a cycle, so the next
cycle's RX_BYTE and TICK come first. TICK times the exchange out and issues; SEND then queues. -/
theorem test_cycle_samples_held_descriptor_after_tick :
    let s := holdingReq [whole [5, 0x20, 0x21, 0, 0, 0, 0, 0]]
      (queue [request, request, request, request] expiring)
    (after (runCycle { rst := false, ctl := none, rx := some 0#8, tick := true, req := none
                       txReady := false, cplTaken := true } s)).map
      (fun t => (t.fcb.reqq.map (·.tag), t.port.reqWaiting, t.fcb.cst, t.fcb.rxbuf))
      = some ([1#4, 1#4, 1#4, 5#4], [], .wait, [0#8]) := by decide

/-- R100, R38(c): a descriptor accepted byte by byte takes effect with its last byte; RESET before it
discards what was accepted. -/
theorem test_descriptor_byte_by_byte :
    let part : PortEvent := .req { bytes := bytes [5], last := false }
    let rest : PortEvent := .req (whole [0x20, 0x21, 0, 0, 0, 0, 0])
    (after (Host.Core.run core 2 (presenting [part, rest] enabled))).map (·.port.cplTrace.map (·.status))
      = some [.notConnected]
    ∧ (after (Host.Core.run core 3 (presenting [part, .rst 1#1, rest] enabled))).map
      (·.port.cplTrace.map (·.status)) = some [.badRequest] := by decide

/-- R250: bytes on the receive stream that are no whole frame are received all the same. -/
theorem test_step_never_faults :
    (after (step (presenting [.wire .fromPanel (bytes [0, 1, 0x41])] linked))).map (·.fcb.rxbuf)
      = some (bytes [0, 1, 0x41])
    ∧ after (step (presenting [.cpl (bytes [0x61])] linked)) = some linked := by decide

/-- R280: the levels while `rst` is high. -/
theorem test_levels_during_reset :
    portLevels true true (unsent [1#8] linked) =
      { rxReady := false, reqReady := false, txValid := false, cplValid := false, ctlValid := false
        forceReconnect := false } := by decide

/-- A word of the opcode table runs as the first operation after reset. -/
theorem test_withFetchWord :
    after (step (State.reset.withFetchWord 16 0x1001)) = some (answered State.reset .ok 0#32) := by decide

/-! ### Witnesses: for each statement with hypotheses, a state and operands that meet them -/

/-- The invariants of a concrete state, in a form `decide` reads. -/
theorem inv_of {s : State}
    (h : s.params.Legal ∧ (s.fcb.en = false → s.fcb.link = false)
      ∧ (s.fcb.link = false → s.fcb.reqq = [] ∧ s.fcb.txq = [] ∧ s.fcb.rxbuf = [] ∧ s.fcb.cst = .idle
        ∧ s.fcb.consecTo = 0#8 ∧ s.fcb.forceReconnect = false)
      ∧ (s.fcb.cst = .idle → s.fcb.timer = 0#16) ∧ (s.fcb.cst = .wait → s.fcb.timer ≠ 0#16)
      ∧ (s.fcb.reqq.length ≤ s.params.qdepth ∧ s.fcb.txq.length ≤ s.params.txqBytes)
      ∧ issueEnabled s = false ∧ rxVerdict s = .needMoreData
      ∧ s.fcb.rxbuf.length + 1 ≤ hdrW + s.params.maxPayload + csumW s.fcb.conf.csumAlg
      ∧ (s.fcb.en = true → s.fcb.conf.Legal) ∧ ∀ d ∈ s.fcb.reqq, d.Legal s.params) : BlockInv s :=
  let ⟨a, b, c, d, e, f, g, i, j, k, l⟩ := h
  ⟨a, b, c, d, e, f, g, i, j, k, l⟩

theorem inv_linked : BlockInv linked := inv_of (by decide)

theorem inv_almost : BlockInv (received almost waiting) := inv_of (by decide)

theorem inv_almost_expiring : BlockInv (received almost expiring) := inv_of (by decide)

theorem inv_almost_queued : BlockInv (received almost (queue [request] waiting)) := inv_of (by decide)

theorem inv_almost_linked : BlockInv (received almost linked) := inv_of (by decide)

theorem inv_almost_unsent : BlockInv (received almost (unsent [0x46#8] waiting)) := inv_of (by decide)

theorem inv_badHeader : BlockInv (received (bytes [0x04, 0x01, 0, 0]) linked) := inv_of (by decide)

theorem witness_DecodeEncodeRoundTrip :
    (Instr.ctlReserved 0#4 0#4 1#8).wf = true ∧ (Instr.send [0#8]).wf = true
    ∧ (Instr.cplOk 14#4 0xFF#8 0xFFFF#16 [0#8]).wf = true ∧ (Instr.cplTimeout 14#4 0#8 1#16 []).wf = true
    ∧ (Instr.cplBadRequest 15#4 0#8 0#16 []).wf = true ∧ (Instr.cplUnsolicited 0#8 1#16 [0#8]).wf = true
    ∧ (Instr.frame .fromPanel 0#8 0#16 [] [0#8]).wf = true
    ∧ (Instr.frame .toPanel 0#8 0#16 [0#8] (bytes [1, 2])).wf = true := by decide

theorem witness_RecordBytesDecodeToTheirRow :
    ∀ r ∈ [({ status := .unsolicited, tag := 15#4, ty := 1#8, seq := 2#16, payload := [0#8] } : CplRecord),
        { status := .ok, tag := 14#4, ty := 1#8, seq := 2#16, payload := [] }],
      r.payload.length < 65536 ∧ (r.status = .unsolicited → r.tag = 15#4) := by decide

theorem witness_DescriptorBytesRoundTrip :
    Params.default.maxPayload ≤ 65535 ∧ ({ request with tag := 14#4 } : Descriptor).Legal Params.default := by
  decide

theorem witness_DescriptorVerdictByLayout :
    decodeDesc Params.default (bytes [1, 0x20, 0x21, 0, 0, 0, 0, 0]) = .good request
    ∧ decodeDesc Params.default (bytes [15, 0x20]) = .bad 15#4 0x20#8
    ∧ decodeDesc Params.default [] = .bad 15#4 0#8 := by decide

theorem witness_CounterBlockBytesAndInjective :
    ctrblk .fromPanel 0xFFFF#16 0x1FFF#16 = ctrblk .fromPanel 0xFFFF#16 0x1FFF#16 := rfl

theorem witness_CryptIsBytewiseExclusiveOr : (bytes [1, 2, 3, 4, 5, 6, 7, 8, 9])[8]? = some 9#8 := by decide

theorem witness_EncodedFrameLayout :
    answerM1.payload.length ≤ 65535
    ∧ (confWith 8#4 0#2).csumAlg = 0#2 ∧ (confWith 8#4 0#2).keyLen = 8#4
    ∧ (confWith 0#4 1#2).csumAlg = 1#2 ∧ (confWith 0#4 1#2).keyLen = 0#4 := by decide

theorem witness_CodecRoundTrip :
    Params.default.maxPayload ≤ 65535 ∧ answerM1.payload.length ≤ Params.default.maxPayload
    ∧ 6 < (encodeFrame ksRef (confWith 0#4 0#2) answerM1 .fromPanel).length := by decide

theorem witness_PayloadCorruptionIsDetected :
    Params.default.maxPayload ≤ 65535 ∧ answerM1.payload.length ≤ Params.default.maxPayload
    ∧ ((confWith 0#4 0#2).csumAlg = 0#2 ∨ (confWith 0#4 0#2).csumAlg = 1#2) ∧ 5 ≤ 5
    ∧ 5 < 5 + answerM1.payload.length
    ∧ (encodeFrame ksRef (confWith 0#4 0#2) answerM1 .fromPanel)[5]? ≠ some 1#8 := by decide

theorem witness_ParseIgnoresLaterBytes :
    parse ksRef Params.default (confWith 0#4 0#2) (bytes [4, 1, 0, 0, 0]) .fromPanel ≠ .needMoreData
    ∧ parse ksRef Params.default (confWith 0#4 0#2) (almost ++ [0x46#8]) .fromPanel ≠ .needMoreData := by
  decide

theorem witness_StepKeepsInv :
    BlockInv (presenting [.tick 1#1] linked) ∧ step (presenting [.tick 1#1] linked) = .next linked :=
  ⟨inv_of (by decide), rfl⟩

theorem witness_StepRunsTheDecodedInstruction :
    (let s := presenting [.tick 1#1] linked;
      s.port.inbox = [.tick 1#1] ∧ decode (.tick 1#1) = .ok .tick)
    ∧ (let s := presenting [.req (whole [5])] linked;
      s.port.inbox = [.req (whole [5])] ∧ (whole [5]).last = true ∧ s.port.reqWaiting = []
        ∧ reqReady s = true)
    ∧ decodeTableWord 16 0x3000 = some .linkUp
    ∧ (decodeTableWord 64 0 = some (.send (bytes [0, 0, 0, 0, 0, 0, 0, 0])) ∧ reqReady linked = true
      ∧ linked.port.reqPart = [])
    ∧ decode (.wire .fromPanel (bytes [0, 1])) = .error .frameTooShort :=
  ⟨⟨rfl, rfl⟩, ⟨rfl, rfl, rfl, rfl⟩, rfl, ⟨rfl, rfl, rfl⟩, rfl⟩

theorem witness_tick_is_no_descriptor (item : ReqItem) : PortEvent.tick 1#1 ≠ .req item := nofun

theorem witness_WaitingDescriptorsHoldUpNoOtherPort :
    (let s := presenting [.req (whole [5])] full;
      reqReady s = false ∧ s.port.inbox = [.req (whole [5])])
    ∧ (let s := presenting [.reqSample] (holdingReq [whole [5]] linked);
      reqReady s = true ∧ s.port.reqWaiting = [whole [5]] ∧ s.port.inbox = [.reqSample]
        ∧ (whole [5]).last = true)
    ∧ (let s := holdingReq [{ bytes := bytes [5], last := false }] linked;
      reqReady s = true ∧ s.port.reqWaiting = [{ bytes := bytes [5], last := false }]
        ∧ s.port.inbox = [])
    ∧ (let s := presenting [.req (whole [6])] (holdingReq [whole [5]] linked);
      reqReady s = true ∧ s.port.reqWaiting = [whole [5]] ∧ s.port.inbox = [.req (whole [6])])
    ∧ (decode (.tick 1#1) = .ok .tick
      ∧ (presenting [.tick 1#1] full).port.inbox = [.tick 1#1] ∧ reqReady full = false)
    ∧ (linked.port.inbox = [] ∧ linked.port.reqWaiting = [])
    ∧ ((holdingReq [whole [5]] full).port.inbox = [] ∧ reqReady (holdingReq [whole [5]] full) = false)
    ∧ (let s := holdingReq [whole [1, 0x20, 0x21, 0, 0, 0, 0, 0]] full;
      s.fcb.en = true ∧ s.fcb.link = true ∧ s.port.inbox = [] ∧ s.port.reqPart = []
        ∧ s.port.reqWaiting = [whole [1, 0x20, 0x21, 0, 0, 0, 0, 0]]
        ∧ decodeDesc s.params (whole [1, 0x20, 0x21, 0, 0, 0, 0, 0]).bytes = .good request) := by decide

theorem witness_NopAnswersOk : issueEnabled linked = false ∧ issueEnabled waiting = false := by decide

/-- One word for each way to be reserved, at the boundaries. -/
theorem witness_ReservedCommandAnswersBadOp :
    let reserved := fun (op rsv : BitVec 4) (n : Byte) =>
      5 ≤ op.toNat ∨ rsv ≠ 0#4 ∨ ((op = 0#4 ∨ op = 3#4 ∨ op = 4#4) ∧ n ≠ 0#8)
    issueEnabled linked = false ∧ reserved 5#4 0#4 0#8 ∧ reserved 15#4 0#4 0#8 ∧ reserved 1#4 1#4 5#8
    ∧ reserved 0#4 0#4 1#8 ∧ reserved 3#4 0#4 1#8 ∧ reserved 4#4 0#4 0x80#8 := by
  simp only [ne_eq]; decide

/-- The undefined numbers at the boundaries of the register map. -/
theorem witness_CsrReadAnswersTheRegister :
    issueEnabled waiting = false
    ∧ ∀ n ∈ [0x0B#8, 0x0F#8, 0x17#8, 0x19#8, 0xFF#8],
      (0x0B ≤ n.toNat ∧ n.toNat ≤ 0x0F) ∨ n.toNat = 0x17 ∨ 0x19 ≤ n.toNat := by decide

theorem witness_StatusReadLayout :
    issueEnabled (queue [request] waiting) = false ∧ (queue [request] waiting).fcb.reqq.length ≤ 15 := by
  decide

theorem witness_CfgOutLevelsReadLayout : issueEnabled (received almost waiting) = false := by decide

theorem witness_KeyCannotBeReadBack : issueEnabled linked = false := by decide

/-- Each clause at the boundary numbers of its range. -/
theorem witness_CsrWriteRefusals :
    issueEnabled linked = false
    ∧ (∀ n ∈ [0x0B#8, 0x0F#8, 0x17#8, 0x19#8, 0xFF#8],
      (0x0B ≤ n.toNat ∧ n.toNat ≤ 0x0F) ∨ n.toNat = 0x17 ∨ 0x19 ≤ n.toNat)
    ∧ (∀ n ∈ [0x01#8, 0x08#8, 0x0A#8, 0x10#8, 0x16#8, 0x18#8],
      n.toNat = 0x01 ∨ (0x08 ≤ n.toNat ∧ n.toNat ≤ 0x0A) ∨ (0x10 ≤ n.toNat ∧ n.toNat ≤ 0x16)
        ∨ n.toNat = 0x18)
    ∧ (∀ n ∈ [0x02#8, 0x06#8], 0x02 ≤ n.toNat ∧ n.toNat ≤ 0x06) ∧ linked.fcb.en = true
    ∧ (0x07#8).toNat = 0x07 ∧ linked.fcb.link = true := by decide

theorem witness_CsrWriteStoresConfiguration : State.reset.fcb.en = false := rfl

theorem witness_CsrWriteStoresTxSeq : enabled.fcb.link = false := rfl

/-- `s` disabled with the configuration `c`. -/
def configured (c : ConnConfig) : State := { State.reset with fcb := { Fcb.reset with conf := c } }

/-- A configuration for the pass and for each cause, and both writes that do not change `EN`. -/
theorem witness_EnableChecksTheConfiguration :
    (configured conf).fcb.en = false ∧ (configured conf).fcb.link = false ∧ (1#32).getLsbD 0 = true
    ∧ conf.Legal
    ∧ (let c := { conf with keyLen := 7#4 }; c.keyLen ≠ 0#4 ∧ c.keyLen ≠ 8#4)
    ∧ (let c := { conf with gen := 2#2 }
      ¬(c.keyLen ≠ 0#4 ∧ c.keyLen ≠ 8#4) ∧ c.gen ≠ 0#2 ∧ c.gen ≠ 1#2)
    ∧ (let c := { conf with matchMode := 0#2 }
      ¬(c.keyLen ≠ 0#4 ∧ c.keyLen ≠ 8#4) ∧ ¬(c.gen ≠ 0#2 ∧ c.gen ≠ 1#2) ∧ c.matchMode = 0#2)
    ∧ (let c := { conf with csumAlg := 2#2 }
      ¬(c.keyLen ≠ 0#4 ∧ c.keyLen ≠ 8#4) ∧ ¬(c.gen ≠ 0#2 ∧ c.gen ≠ 1#2) ∧ c.matchMode ≠ 0#2
        ∧ c.csumAlg ≠ 0#2 ∧ c.csumAlg ≠ 1#2)
    ∧ (let c := { conf with reqTimeout := 0#16 }
      ¬(c.keyLen ≠ 0#4 ∧ c.keyLen ≠ 8#4) ∧ ¬(c.gen ≠ 0#2 ∧ c.gen ≠ 1#2) ∧ c.matchMode ≠ 0#2
        ∧ ¬(c.csumAlg ≠ 0#2 ∧ c.csumAlg ≠ 1#2) ∧ c.reqTimeout = 0#16)
    ∧ ((1#32).getLsbD 0 = linked.fcb.en ∧ issueEnabled linked = false)
    ∧ ((0xFFFFFFFE#32).getLsbD 0 = State.reset.fcb.en ∧ issueEnabled State.reset = false) := by decide

theorem witness_DisableFailsEveryPendingRequest :
    (0xFFFFFFFE#32).getLsbD 0 = false ∧ (enabled.fcb.en = true ∧ enabled.fcb.link = false)
    ∧ (queue [request] waiting).fcb.en = true ∧ (queue [request] waiting).fcb.link = true := by decide

theorem witness_LinkUpRaisesTheLink :
    State.reset.fcb.en = false
    ∧ (linked.fcb.en = true ∧ linked.fcb.link = true ∧ issueEnabled linked = false)
    ∧ (enabled.fcb.en = true ∧ enabled.fcb.link = false ∧ enabled.fcb.reqq = []) := by decide

theorem witness_LinkDownFailsEveryPendingRequest :
    State.reset.fcb.en = false ∧ (enabled.fcb.en = true ∧ enabled.fcb.link = false)
    ∧ (waiting.fcb.en = true ∧ waiting.fcb.link = true) := by decide

theorem witness_SendRefusals :
    let bs := bytes [1, 0x20, 0x21, 0, 0, 0, 0, 0]
    (reqReady linked = true ∧ decodeDesc linked.params [15#8] = .bad 15#4 0#8)
    ∧ (reqReady State.reset = true ∧ decodeDesc State.reset.params bs = .good request
      ∧ State.reset.fcb.en = false)
    ∧ (reqReady enabled = true ∧ decodeDesc enabled.params bs = .good request ∧ enabled.fcb.en = true
      ∧ enabled.fcb.link = false) := by decide

/-- A state for each reason to wait; in the last two the frame is one byte too long for TXQ. -/
theorem witness_SendQueuesBehindTheLock :
    let bs := bytes [1, 0x20, 0x21, 0, 0, 0, 0, 0]
    (reqReady waiting = true ∧ decodeDesc waiting.params bs = .good request ∧ waiting.fcb.en = true
      ∧ waiting.fcb.link = true ∧ waiting.fcb.cst = .wait)
    ∧ (let s := unsent (bytes [1, 2]) (tiny linked);
      reqReady s = true ∧ decodeDesc s.params bs = .good request ∧ s.fcb.en = true ∧ s.fcb.link = true
        ∧ s.fcb.reqq = []
        ∧ s.params.txqBytes < s.fcb.txq.length + frameLen s.fcb.conf request.payload.length)
    ∧ (let s := { unsent (bytes [1, 2]) (queue [request] (tiny linked)) with
                  params := { maxPayload := 0, qdepth := 2, txqBytes := 7 } }
      reqReady s = true ∧ decodeDesc s.params bs = .good request ∧ s.fcb.en = true ∧ s.fcb.link = true
        ∧ s.fcb.reqq = request :: []
        ∧ s.params.txqBytes < s.fcb.txq.length + frameLen s.fcb.conf request.payload.length) := by decide

/-- The frame fills TXQ to its last byte. -/
theorem witness_SendIssuesAtOnce :
    let s := unsent (bytes [1]) (tiny linked)
    reqReady s = true ∧ decodeDesc s.params (bytes [1, 0x20, 0x21, 0, 0, 0, 0, 0]) = .good request
    ∧ s.fcb.en = true ∧ s.fcb.link = true ∧ s.fcb.cst = .idle ∧ s.fcb.reqq = []
    ∧ s.fcb.txq.length + frameLen s.fcb.conf request.payload.length ≤ s.params.txqBytes := by decide

theorem witness_SendWaitsWhileTheQueueIsFull : reqReady (queue [request] (tiny waiting)) = false := by
  decide

theorem witness_RxByteOutsideAConnectionIsDiscarded :
    State.reset.fcb.en = false ∧ enabled.fcb.link = false := ⟨rfl, rfl⟩

theorem witness_RxByteOfAPartialFrameIsBuffered :
    BlockInv linked ∧ linked.fcb.en = true ∧ linked.fcb.link = true
    ∧ parse Config.ks linked.params linked.fcb.conf (linked.fcb.rxbuf ++ [5#8]) .fromPanel = .needMoreData :=
  ⟨inv_linked, by decide⟩

theorem witness_BadChecksumDropsTheFrame :
    let s := received almost waiting
    BlockInv s ∧ s.fcb.en = true ∧ s.fcb.link = true
    ∧ parse Config.ks s.params s.fcb.conf (s.fcb.rxbuf ++ [0x47#8]) .fromPanel = .badChecksum 7 :=
  ⟨inv_almost, by decide⟩

/-- LEN is 1025, one more than MAX_PAYLOAD. -/
theorem witness_BadLengthDropsOneByte :
    let s := received (bytes [0x04, 0x01, 0, 0]) linked
    BlockInv s ∧ s.fcb.en = true ∧ s.fcb.link = true ∧ s.fcb.rxbuf = [0x04#8, 0x01#8, 0#8, 0#8]
    ∧ s.params.maxPayload < (0x04#8).toNat * 256 + (0x01#8).toNat :=
  ⟨inv_badHeader, by decide⟩

theorem witness_MatchingResponseCompletesTheExchange :
    let s := received almost waiting
    BlockInv s ∧ s.fcb.en = true ∧ s.fcb.link = true
    ∧ parse Config.ks s.params s.fcb.conf (s.fcb.rxbuf ++ [0x46#8]) .fromPanel = .frame answerM1 7
    ∧ s.fcb.cst = .wait ∧ s.fcb.txq = []
    ∧ (s.fcb.conf.matchMode.getLsbD 0 = true → answerM1.ty = s.fcb.out.expTy)
    ∧ (s.fcb.conf.matchMode.getLsbD 1 = true → answerM1.seq = s.fcb.out.seq) ∧ s.fcb.reqq = [] :=
  ⟨inv_almost, by decide⟩

theorem witness_MatchingResponseIssuesTheNextRequest :
    let s := received almost (queue [request] waiting)
    BlockInv s ∧ s.fcb.en = true ∧ s.fcb.link = true
    ∧ parse Config.ks s.params s.fcb.conf (s.fcb.rxbuf ++ [0x46#8]) .fromPanel = .frame answerM1 7
    ∧ s.fcb.cst = .wait ∧ s.fcb.txq = []
    ∧ (s.fcb.conf.matchMode.getLsbD 0 = true → answerM1.ty = s.fcb.out.expTy)
    ∧ (s.fcb.conf.matchMode.getLsbD 1 = true → answerM1.seq = s.fcb.out.seq)
    ∧ s.fcb.reqq = request :: [] :=
  ⟨inv_almost_queued, by decide⟩

/-- No exchange; request bytes unsent; another SEQ (M2's message, whose frame ends in `45`). -/
theorem witness_OtherValidFrameIsUnsolicited :
    (let s := received almost linked;
      BlockInv s ∧ s.fcb.en = true ∧ s.fcb.link = true
      ∧ parse Config.ks s.params s.fcb.conf (s.fcb.rxbuf ++ [0x46#8]) .fromPanel = .frame answerM1 7
      ∧ s.fcb.cst = .idle)
    ∧ (let s := received almost (unsent [0x46#8] waiting);
      BlockInv s ∧ s.fcb.en = true ∧ s.fcb.link = true
      ∧ parse Config.ks s.params s.fcb.conf (s.fcb.rxbuf ++ [0x46#8]) .fromPanel = .frame answerM1 7
      ∧ s.fcb.txq ≠ [])
    ∧ (let s := received (bytes [0, 1, 0x41, 1, 2, 0]) waiting;
      BlockInv s ∧ s.fcb.en = true ∧ s.fcb.link = true
      ∧ parse Config.ks s.params s.fcb.conf (s.fcb.rxbuf ++ [0x45#8]) .fromPanel = .frame lateM2 7
      ∧ s.fcb.conf.matchMode.getLsbD 1 = true ∧ lateM2.seq ≠ s.fcb.out.seq)
    ∧ (let s := received (bytes [0, 1, 0x42, 1, 3, 0]) waiting;
      BlockInv s ∧ s.fcb.en = true ∧ s.fcb.link = true
      ∧ parse Config.ks s.params s.fcb.conf (s.fcb.rxbuf ++ [0x47#8]) .fromPanel
        = .frame { answerM1 with ty := 0x42#8 } 7
      ∧ s.fcb.conf.matchMode.getLsbD 0 = true ∧ ({ answerM1 with ty := 0x42#8 } : Message).ty ≠ s.fcb.out.expTy) :=
  ⟨⟨inv_almost_linked, by decide⟩, ⟨inv_almost_unsent, by decide⟩, ⟨inv_of (by decide), by decide⟩,
    ⟨inv_of (by decide), by decide⟩⟩

/-- The lock held; nothing queued; still one byte short. -/
theorem witness_TxPopHandsOverTheHead :
    (let s := unsent (bytes [1, 2]) waiting; s.fcb.txq = 1#8 :: [2#8] ∧ s.fcb.cst = .wait)
    ∧ (let s := unsent (bytes [1, 2]) linked; s.fcb.txq = 1#8 :: [2#8] ∧ s.fcb.reqq = [])
    ∧ (let s := unsent (bytes [1, 2, 3]) (queue [request] (tiny linked));
      s.fcb.txq = 1#8 :: [2#8, 3#8] ∧ s.fcb.reqq = request :: []
        ∧ s.params.txqBytes < 2 + frameLen s.fcb.conf request.payload.length)
    ∧ linked.fcb.txq = [] := by decide

theorem witness_TxPopIssuesWhenTheFrameFits :
    let s := unsent (bytes [1, 2]) (queue [request] (tiny linked))
    s.fcb.en = true ∧ s.fcb.link = true ∧ s.fcb.cst = .idle ∧ s.fcb.txq = 1#8 :: [2#8]
    ∧ s.fcb.reqq = request :: []
    ∧ [2#8].length + frameLen s.fcb.conf request.payload.length ≤ s.params.txqBytes := by decide

theorem witness_TickCountsDown :
    (linked.fcb.cst = .idle ∧ issueEnabled linked = false)
    ∧ (let s := { waiting with fcb := { waiting.fcb with timer := 2#16 } };
      s.fcb.cst = .wait ∧ 1 < s.fcb.timer.toNat) := by decide

/-- Nothing queued; and a queued frame that is one byte too long for TXQ. -/
theorem witness_TickTimesOutTheExchange :
    (expiring.fcb.cst = .wait ∧ expiring.fcb.timer = 1#16 ∧ expiring.fcb.reqq = [])
    ∧ (let s := unsent (bytes [1, 2]) (queue [request] (tiny expiring));
      s.fcb.cst = .wait ∧ s.fcb.timer = 1#16 ∧ s.fcb.reqq = request :: []
        ∧ s.params.txqBytes < s.fcb.txq.length + frameLen s.fcb.conf request.payload.length) := by decide

theorem witness_TimeoutIssuesTheNextRequest :
    let s := unsent (bytes [1]) (queue [request] (tiny expiring))
    s.fcb.en = true ∧ s.fcb.link = true ∧ s.fcb.cst = .wait ∧ s.fcb.timer = 1#16
    ∧ s.fcb.reqq = request :: []
    ∧ s.fcb.txq.length + frameLen s.fcb.conf request.payload.length ≤ s.params.txqBytes := by decide

theorem witness_FrameOutsideAConnectionIsDiscarded :
    State.reset.fcb.en = false ∧ enabled.fcb.link = false := ⟨rfl, rfl⟩

/-- A state in which the frame answers, and one in which it does not. -/
theorem witness_EncodedFrameIsReceivedAndDelivered :
    (BlockInv waiting ∧ waiting.fcb.en = true ∧ waiting.fcb.link = true ∧ waiting.fcb.rxbuf = []
      ∧ answerM1.payload.length ≤ waiting.params.maxPayload
      ∧ (waiting.fcb.cst = .wait ∧ waiting.fcb.txq = []
        ∧ (waiting.fcb.conf.matchMode.getLsbD 0 = true → answerM1.ty = waiting.fcb.out.expTy)
        ∧ (waiting.fcb.conf.matchMode.getLsbD 1 = true → answerM1.seq = waiting.fcb.out.seq)))
    ∧ (BlockInv linked ∧ linked.fcb.en = true ∧ linked.fcb.link = true ∧ linked.fcb.rxbuf = []
      ∧ answerM1.payload.length ≤ linked.params.maxPayload ∧ ¬ linked.fcb.cst = .wait) :=
  ⟨⟨inv_of (by decide), by decide⟩, inv_linked, by decide⟩

theorem witness_FrameToThePanelIsHandedOver :
    (unsent (bytes [0, 0, 0x20, 0, 0, 0x20, 7]) linked).fcb.txq = frameBytes 0x20#8 0#16 [] [0x20#8] ++ [7#8]
    ∧ ∀ rest, linked.fcb.txq ≠ frameBytes 0x20#8 0#16 [] [0x20#8] ++ rest :=
  ⟨by decide, fun _ h => nomatch h⟩

/-- A record of every status code stands next; and none does. -/
theorem witness_RecordsCrossInOrder :
    (∀ st ∈ [CplStatus.ok, .timeout, .connectionLost, .notConnected, .notConfigured, .badRequest, .unsolicited],
      let r : CplRecord := { status := st, tag := 15#4, ty := 1#8, seq := 0#16, payload := [] }
      (holding r linked).port.cplOut = r :: [] ∧ (holding r linked).port.cplSent = 0
        ∧ linked.port.cplOut.head? ≠ some r
        ∧ [true, false, true, true, true, false].length = 6 + r.payload.length) := by decide

/-- The TICK that times `expiring` out issues the queued request. -/
theorem witness_NoIssueWhileTheLockIsHeld :
    Instr.tick ≠ .reset
    ∧ ∃ t, exec .tick (queue [request] expiring) = .next t
      ∧ (queue [request] expiring).fcb.cst = .wait
      ∧ t.fcb.cnt.tx ≠ (queue [request] expiring).fcb.cnt.tx :=
  ⟨by decide, _, rfl, by decide⟩

theorem witness_ConfigurationIsImmutableWhileEnabled :
    ∃ t, exec (.csrWrite 0x02#8 0#32) enabled = .next t ∧ enabled.fcb.en = true ∧ t.fcb.en = true :=
  ⟨_, rfl, by decide⟩

theorem witness_StickyFlagsFallOnlyAsSaid :
    (let s := { linked with fcb := { linked.fcb with forceReconnect := true } }
      ∃ t, exec .linkDown s = .next t ∧ s.fcb.forceReconnect = true ∧ t.fcb.forceReconnect = false)
    ∧ (let s := { enabled with fcb := { enabled.fcb with seqWrap := true } }
      ∃ t, exec (.csrWrite 0x07#8 0#32) s = .next t ∧ s.fcb.seqWrap = true ∧ t.fcb.seqWrap = false) :=
  ⟨⟨_, rfl, by decide⟩, ⟨_, rfl, by decide⟩⟩

theorem witness_OutputsKeepTheirOrder :
    ∃ t, exec .txPop (unsent (bytes [1, 2]) linked) = .next t ∧ t.fcb.link = true ∧ Instr.txPop ≠ .reset :=
  ⟨_, rfl, by decide⟩

/-- A queued frame that fits to the last byte of TXQ, and one that is a byte too long. -/
theorem witness_TicksEndTheExchange :
    let fits := fun (s : State) (d : Descriptor) => s.fcb.en = true ∧ s.fcb.link = true
      ∧ s.fcb.txq.length + frameLen s.fcb.conf d.payload.length ≤ s.params.txqBytes
    (let s := unsent (bytes [1]) (queue [request] (tiny waiting));
      s.fcb.cst = .wait ∧ s.fcb.timer ≠ 0#16 ∧ s.fcb.reqq = request :: [] ∧ fits s request)
    ∧ (let s := unsent (bytes [1, 2]) (queue [request] (tiny waiting));
      s.fcb.cst = .wait ∧ s.fcb.timer ≠ 0#16 ∧ s.fcb.reqq = request :: [] ∧ ¬fits s request) := by decide

theorem witness_SameCycleOrder :
    (unsent (bytes [1, 2]) linked).fcb.txq = 1#8 :: [2#8] ∧
    ({ rst := true, ctl := none, rx := some 0#8, tick := true, req := none, txReady := true, cplTaken := true }
      : CycleInputs).rst = true
    ∧ ({ rst := false, ctl := none, rx := some 0#8, tick := true, req := none, txReady := true, cplTaken := true }
      : CycleInputs).rst = false := ⟨rfl, rfl, rfl⟩

theorem witness_ResponseWinsOverTimeoutInOneCycle :
    let s := received almost expiring
    BlockInv s ∧ s.fcb.en = true ∧ s.fcb.link = true ∧ s.port.inbox = [] ∧ s.port.reqWaiting = []
    ∧ parse Config.ks s.params s.fcb.conf (s.fcb.rxbuf ++ [0x46#8]) .fromPanel = .frame answerM1 7
    ∧ s.fcb.cst = .wait ∧ s.fcb.timer = 1#16 ∧ s.fcb.txq = [] ∧ s.fcb.reqq = []
    ∧ (s.fcb.conf.matchMode.getLsbD 0 = true → answerM1.ty = s.fcb.out.expTy)
    ∧ (s.fcb.conf.matchMode.getLsbD 1 = true → answerM1.seq = s.fcb.out.seq) :=
  ⟨inv_almost_expiring, by decide⟩

end Sys2Proof.Tests
end

section
/-! What a step does with each kind of stimulus that is presented, said once, and O19 from it
(`spec/00_scope.md` R6, `spec/30_encoding.md` R100, `spec/42_correlator.md` R194). -/

namespace Sys2Proof.Machine

/-! ### What `decode` and the opcode table read -/

/-- Bytes on the REQ port are an operation exactly if they end a descriptor (R100). -/
theorem decode_req_eq_ok {item : ReqItem} {i : Instr} :
    decode (.req item) = .ok i ↔ item.last = true ∧ i = .send item.bytes := by
  cases hl : item.last <;> simp [decode, hl, eq_comm]

/-- A table word is an instruction exactly if the wires it stands for carry that instruction. -/
theorem decodeTableWord_eq_some {nbits w : Nat} {i : Instr} :
    decodeTableWord nbits w = some i ↔ ∃ e, tableEvent nbits w = some e ∧ decode e = .ok i := by
  unfold decodeTableWord
  cases tableEvent nbits w with
  | none => simp
  | some e => cases hd : decode e <;> simp [hd]

theorem withFetchWord_of_tableEvent {nbits w : Nat} {e : PortEvent} (s : State)
    (h : tableEvent nbits w = some e) : s.withFetchWord nbits w = presentNext e s := by
  simp [State.withFetchWord, h]

/-! ### What `fetch` takes -/

/-- Bytes presented on the REQ port stand behind those held there, and the port is sampled. -/
theorem fetch_of_req {s : State} {item : ReqItem} {rest : List PortEvent}
    (h : s.port.inbox = .req item :: rest) :
    fetch s = sampleReq { s with port := { s.port with
      inbox := rest, reqWaiting := s.port.reqWaiting ++ [item] } } := by
  simp [fetch, h, push]

theorem fetch_of_reqSample {s : State} {rest : List PortEvent}
    (h : s.port.inbox = .reqSample :: rest) :
    fetch s = sampleReq { s with port := { s.port with inbox := rest } } := by
  simp [fetch, h]

/-- A stimulus of any other port is taken as it is, whatever is held on the REQ port (R194). -/
theorem fetch_of_other_port {s : State} {e : PortEvent} {rest : List PortEvent}
    (h : s.port.inbox = e :: rest) (hreq : ∀ item, e ≠ .req item) (hsample : e ≠ .reqSample) :
    fetch s = (some e, { s with port := { s.port with inbox := rest } }) := by
  cases e with
  | req item => exact absurd rfl (hreq item)
  | reqSample => exact absurd rfl hsample
  | ctl _ _ | cpl _ | cplByte _ | wire _ _ | rx _ | txReady _ | tick _ | rst _ => simp [fetch, h]

/-- While `req_ready` is high the port accepts the last byte of a descriptor, which presents the
SEND of all its bytes (R100, R194). -/
theorem sampleReq_of_last {s : State} {item : ReqItem} {held : List ReqItem}
    (hw : s.port.reqWaiting = item :: held) (hr : reqReady s = true) (hl : item.last = true) :
    sampleReq s = (some (.req { bytes := s.port.reqPart ++ item.bytes, last := true }),
      { s with port := { s.port with reqWaiting := held, reqPart := [] } }) := by
  simp [sampleReq, hw, hr, hl, push]

/-! ### What a step does with what it took -/

theorem step_of_fetch_ok {s t : State} {e : PortEvent} {i : Instr} (hf : fetch s = (some e, t))
    (hd : decode e = .ok i) : step s = exec i t := by
  simp [step, hf, hd]

theorem step_of_fetch_error {s t : State} {e : PortEvent} {err : DecodeError}
    (hf : fetch s = (some e, t)) (hd : decode e = .error err) :
    step s = .next (runUnlisted e t) := by
  simp [step, hf, hd]

/-- The first stimulus in the inbox, of any port but REQ, runs as the operation it decodes to (R6). -/
theorem step_of_decode_ok {s : State} {e : PortEvent} {rest : List PortEvent} {i : Instr}
    (h : s.port.inbox = e :: rest) (hreq : ∀ item, e ≠ .req item) (hd : decode e = .ok i) :
    step s = exec i { s with port := { s.port with inbox := rest } } := by
  have hsample : e ≠ .reqSample := by rintro rfl; nomatch hd
  exact step_of_fetch_ok (fetch_of_other_port h hreq hsample) hd

/-- A step that samples the REQ port runs the SEND of a descriptor whose last byte it accepts. -/
theorem step_of_sampleReq_last {s t : State} {item : ReqItem} {held : List ReqItem}
    (hf : fetch s = sampleReq t) (hw : t.port.reqWaiting = item :: held) (hr : reqReady t = true)
    (hl : item.last = true) :
    step s = exec (.send (t.port.reqPart ++ item.bytes))
      { t with port := { t.port with reqWaiting := held, reqPart := [] } } :=
  step_of_fetch_ok (hf.trans (sampleReq_of_last hw hr hl)) (decode_req_eq_ok.mpr ⟨rfl, rfl⟩)

/-- Bytes that end a descriptor, presented while `req_ready` is high and none wait, run at once as the
SEND of all its bytes (R100). -/
theorem step_of_last_req {s : State} {item : ReqItem} {rest : List PortEvent}
    (h : s.port.inbox = .req item :: rest) (hl : item.last = true) (hw : s.port.reqWaiting = [])
    (hr : reqReady s = true) :
    step s = exec (.send (s.port.reqPart ++ item.bytes))
      { s with port := { s.port with inbox := rest, reqPart := [] } } := by
  have hwait : s.port.reqWaiting ++ [item] = item :: [] := by rw [hw, List.nil_append]
  rw [step_of_sampleReq_last (fetch_of_req h) hwait hr hl, ← hw]

/-- Wire bytes that are no whole frame cross the wire all the same (R250). -/
theorem step_of_wire_error {s : State} {dir : Dir} {bytes : List Byte} {rest : List PortEvent}
    {err : DecodeError} (h : s.port.inbox = .wire dir bytes :: rest)
    (hd : decode (.wire dir bytes) = .error err) :
    step s = .next (wireBytes dir bytes { s with port := { s.port with inbox := rest } }) :=
  step_of_fetch_error (fetch_of_other_port h nofun nofun) hd

/-- The stimulus presented next is the one that runs. A descriptor is presented alone, so it runs only
if it can be accepted, and what was half assembled would be lost with it. -/
theorem step_presentNext {e : PortEvent} {i : Instr} {s : State} (hd : decode e = .ok i)
    (hsend : ∀ item, e = .req item → reqReady s = true ∧ s.port.reqPart = []) :
    step (presentNext e s) = exec i s := by
  cases e with
  | req item =>
    obtain ⟨hl, rfl⟩ := decode_req_eq_ok.mp hd
    obtain ⟨hr, hp⟩ := hsend item rfl
    have hs : { s with port := { s.port with reqPart := [] } } = s := by rw [← hp]
    rw [step_of_sampleReq_last (s := presentNext (.req item) s) (fetch_of_reqSample rfl) rfl hr hl]
    exact congrArg (exec (.send item.bytes)) hs
  | ctl _ _ | reqSample | cpl _ | cplByte _ | wire _ _ | rx _ | txReady _ | tick _ | rst _ =>
    exact step_of_decode_ok (rest := s.port.inbox) rfl nofun hd

/-- Settles O19: a case for each way a stimulus reaches the block. -/
theorem stepRunsTheDecodedInstruction : Obligations.StepRunsTheDecodedInstruction := by
  refine ⟨fun _ _ _ _ => step_of_decode_ok, fun _ _ _ => step_of_last_req, ?_,
    fun _ _ _ _ _ => step_of_wire_error⟩
  intro s nbits w i hi hsend
  obtain ⟨e, he, hd⟩ := decodeTableWord_eq_some.mp hi
  rw [withFetchWord_of_tableEvent s he]
  refine step_presentNext hd fun item hitem => hsend ⟨item.bytes, ?_⟩
  subst hitem
  exact (decode_req_eq_ok.mp hd).2

end Sys2Proof.Machine
end

section
/-! What a step, a CSR_WRITE, a crossing record and a string of wire bytes can do to the block, said
once each (`spec/10_state.md` R38, `spec/30_encoding.md` R106, `spec/43_control.md` R223). -/

namespace Sys2Proof.Machine

/-! ### The ports outside the block (R38(c), R39) -/

/-- Taking a stimulus from a port touches neither the parameters nor the block. -/
theorem fetch_keeps (s : State) : (fetch s).2.params = s.params ∧ (fetch s).2.fcb = s.fcb := by
  have sampled : ∀ u : State, u.params = s.params → u.fcb = s.fcb →
      (sampleReq u).2.params = s.params ∧ (sampleReq u).2.fcb = s.fcb := fun u hp hf =>
    ⟨(sampleReq_keeps u).1.trans hp, (sampleReq_keeps u).2.1.trans hf⟩
  cases hi : s.port.inbox with
  | nil => simpa [fetch, hi] using sampled s rfl rfl
  | cons e rest =>
    cases e with
    | req item => rw [fetch_of_req hi]; exact sampled _ rfl rfl
    | reqSample => rw [fetch_of_reqSample hi]; exact sampled _ rfl rfl
    | ctl _ _ | cpl _ | cplByte _ | wire _ _ | rx _ | txReady _ | tick _ | rst _ =>
      rw [fetch_of_other_port hi nofun nofun]; exact ⟨rfl, rfl⟩

/-- A step takes a stimulus from the ports, or finds none; then it runs the operation the stimulus
carries, or gives it the effect of one that is no row of the table (R6, R250). -/
theorem step_cases {s t : State} (h : step s = .next t) :
    ∃ u : State, u.params = s.params ∧ u.fcb = s.fcb
      ∧ (t = u ∨ (∃ i, exec i u = .next t) ∨ ∃ e, t = runUnlisted e u) := by
  obtain ⟨hp, hf⟩ := fetch_keeps s
  rcases hu : fetch s with ⟨_ | e, u⟩ <;> rw [hu] at hp hf <;> refine ⟨u, hp, hf, ?_⟩
  · simp only [step, hu] at h
    cases h
    exact .inl rfl
  · cases hd : decode e with
    | ok i => exact .inr (.inl ⟨i, step_of_fetch_ok hu hd ▸ h⟩)
    | error err =>
      rw [step_of_fetch_error hu hd] at h
      cases h
      exact .inr (.inr ⟨e, rfl⟩)

/-- A record that crosses the CPL port touches neither the parameters nor the block (R71). -/
theorem takeRecord_keeps (r : CplRecord) (s : State) :
    (takeRecord r s).params = s.params ∧ (takeRecord r s).fcb = s.fcb := by
  unfold takeRecord
  split <;> exact ⟨rfl, rfl⟩

/-- A relation that every RX_BYTE and every TX_POP keeps, and that composes, is kept when any bytes
cross a wire stream: the induction over the bytes, once (R106). -/
theorem wireBytes_induction (P : State → State → Prop) (refl : ∀ s, P s s)
    (trans : ∀ s t u, P s t → P t u → P s u) (receive : ∀ b s, P s (receiveByte b s))
    (pop : ∀ s, P s (popByte s)) (dir : Dir) (bs : List Byte) (s : State) :
    P s (wireBytes dir bs s) := by
  have received : ∀ (bs : List Byte) s, P s (receiveBytes bs s) := by
    intro bs
    induction bs with
    | nil => exact refl
    | cons b bs ih =>
      intro s
      rw [receiveBytes_cons]
      exact trans _ _ _ (receive b s) (ih _)
  have popped : ∀ n s, P s (popBytes n s) := by
    intro n
    induction n with
    | zero => exact refl
    | succ n ih =>
      intro s
      rw [popBytes_succ]
      exact trans _ _ _ (pop s) (ih _)
  cases dir with
  | fromPanel => exact received bs s
  | toPanel =>
    rcases handBytes_cases bs s with ⟨_, e⟩ | ⟨_, e⟩ <;> rw [wireBytes, e]
    · exact popped _ s
    · exact refl s

/-! ### The port operations of the block -/

/-- RX_BYTE is discarded outside a connection, and inside one it is buffered, deframed and settled
(R155). -/
theorem receiveByte_cases (b : Byte) (s : State) :
    ((s.fcb.en = false ∨ s.fcb.link = false) ∧ receiveByte b s = countRxDiscard s)
    ∨ (s.fcb.en = true ∧ s.fcb.link = true ∧ receiveByte b s =
        settle (deframe { s with fcb := { s.fcb with rxbuf := s.fcb.rxbuf ++ [b] } })) := by
  cases he : s.fcb.en <;> cases hl : s.fcb.link <;> simp [receiveByte, push, he, hl]

/-- TX_POP does nothing while TXQ is empty, and else hands its head over and settles (R161). -/
theorem popByte_cases (s : State) :
    (s.fcb.txq = [] ∧ popByte s = s)
    ∨ ∃ b rest, s.fcb.txq = b :: rest ∧ popByte s = settle { s with
        fcb := { s.fcb with txq := rest }
        port := { s.port with txTrace := s.port.txTrace ++ [b] } } := by
  cases hq : s.fcb.txq with
  | nil => exact .inl ⟨rfl, by simp [popByte, hq]⟩
  | cons b rest => exact .inr ⟨b, rest, rfl, by simp [popByte, hq, push]⟩

/-- What DECODE_DESC accepts is a descriptor REQQ may hold (R35, R181). -/
theorem decodeDesc_good_legal {p : Params} {bs : List Byte} {d : Descriptor}
    (h : decodeDesc p bs = .good d) : d.Legal p := by
  unfold decodeDesc at h
  split at h
  case h_3 b0 ty expTy b3 t1 t0 p1 p0 payload =>
    dsimp only at h
    split_ifs at h with hrsv htag hb3 hmax hlen
    cases h
    exact ⟨htag, by rw [not_not.mp hlen]; exact Nat.not_lt.mp hmax⟩
  all_goals cases h

/-- SEND, once it is enabled, emits one record, or it queues a legal descriptor and settles, which
takes a connection (R180). -/
theorem sendRequest_cases (bs : List Byte) (s : State) :
    (∃ r, sendRequest bs s = emit r s)
    ∨ ∃ d, d.Legal s.params ∧ s.fcb.en = true ∧ s.fcb.link = true
        ∧ sendRequest bs s = settle { s with fcb := { s.fcb with reqq := s.fcb.reqq ++ [d] } } := by
  cases hd : decodeDesc s.params bs with
  | bad tag ty => exact .inl ⟨_, by simp only [sendRequest, hd]; rfl⟩
  | good d =>
    cases he : s.fcb.en with
    | false => exact .inl ⟨_, by simp only [sendRequest, hd, he]; rfl⟩
    | true =>
      cases hl : s.fcb.link with
      | false => exact .inl ⟨_, by simp only [sendRequest, hd, he, hl]; rfl⟩
      | true =>
        exact .inr ⟨d, decodeDesc_good_legal hd, rfl, rfl, by
          simp [sendRequest, hd, he, hl, acceptRequest, push]⟩

/-- `req_ready` high inside a connection means room in REQQ (R100, R194). -/
theorem reqq_ne_qdepth_of_reqReady {s : State} (hr : reqReady s = true) (hl : s.fcb.link = true) :
    s.fcb.reqq.length ≠ s.params.qdepth := by
  simpa [reqReady, hl] using hr

/-! ### CSR_WRITE -/

theorem csrOf_eq_ctrl_iff (n : Byte) : csrOf n = some .ctrl ↔ n = 0x00#8 := by
  revert n; decide

theorem csrOf_eq_txSeq_iff (n : Byte) : csrOf n = some .txSeq ↔ n = 0x07#8 := by
  revert n; decide

/-- A CTRL write that changes EN is an enable attempt or a disable, and any other has no effect (R22,
R224, R225). -/
theorem ctrlWrite_cases (bit : Bool) (s : State) :
    (bit = s.fcb.en ∧ ctrlWrite bit s = respond .ok 0#32 s)
    ∨ (bit = true ∧ s.fcb.en = false ∧ ctrlWrite bit s = enable s)
    ∨ (bit = false ∧ s.fcb.en = true ∧ ctrlWrite bit s = disable s) := by
  cases he : s.fcb.en <;> cases bit <;> simp [ctrlWrite, he]

/-- A write of a register that is not read-only and not locked is stored (R223). -/
theorem csrWrite_accepted {n : Byte} (c : Csr) (v : Word) {s : State} (hn : csrOf n = some c)
    (hro : csrReadOnly c = false) (hlk : csrLocked s.fcb c = false) :
    csrWrite n v s = csrStore c v s := by
  simp [csrWrite, hn, hro, hlk]

/-- CSR_WRITE only answers; or stores TX_SEQ while the link is down, or a configuration register while
`EN = 0`; or it is an enable attempt or a disable (R223, R228). -/
theorem csrWrite_cases (n : Byte) (v : Word) (s : State) :
    (∃ status, csrWrite n v s = respond status 0#32 s)
    ∨ (n = 0x07#8 ∧ s.fcb.link = false ∧ csrWrite n v s = respond .ok 0#32
        { s with fcb := { s.fcb with txSeq := v.extractLsb' 0 16, seqWrap := false } })
    ∨ (∃ c, csrOf n = some c ∧ s.fcb.en = false ∧ csrWrite n v s = respond .ok 0#32
        { s with fcb := { s.fcb with conf := confStore s.fcb.conf v c } })
    ∨ (n = 0x00#8 ∧ v.getLsbD 0 = true ∧ s.fcb.en = false ∧ csrWrite n v s = enable s)
    ∨ (n = 0x00#8 ∧ v.getLsbD 0 = false ∧ s.fcb.en = true ∧ csrWrite n v s = disable s) := by
  cases hc : csrOf n with
  | none => exact .inl ⟨.badCsr, by simp [csrWrite, hc]⟩
  | some c =>
    cases hro : csrReadOnly c with
    | true => exact .inl ⟨.readOnly, by simp [csrWrite, hc, hro]⟩
    | false =>
      cases hlk : csrLocked s.fcb c with
      | true => exact .inl ⟨.locked, by simp [csrWrite, hc, hro, hlk]⟩
      | false =>
        rw [csrWrite_accepted c v hc hro hlk]
        cases c with
        | ctrl =>
          have hn := (csrOf_eq_ctrl_iff n).mp hc
          rcases ctrlWrite_cases (v.getLsbD 0) s with ⟨_, e⟩ | ⟨hb, he, e⟩ | ⟨hb, he, e⟩
          · exact .inl ⟨.ok, e⟩
          · exact .inr (.inr (.inr (.inl ⟨hn, hb, he, e⟩)))
          · exact .inr (.inr (.inr (.inr ⟨hn, hb, he, e⟩)))
        | txSeq => exact .inr (.inl ⟨(csrOf_eq_txSeq_iff n).mp hc, hlk, rfl⟩)
        | cfg | key0 | key1 | reqTimeout | toLimit =>
          exact .inr (.inr (.inl ⟨_, rfl, hlk, rfl⟩))
        | status | timer | consecTo | out | cntTx | cntRxOk | cntCsumErr | cntMalformed | cntUnsol
          | cntTimeout | cntRxDiscard | levels => cases hro

/-- The enable attempt finds no cause exactly for a legal configuration (R108, R224). -/
theorem configCause_eq_zero_iff (c : ConnConfig) : configCause c = 0#4 ↔ c.Legal := by
  unfold configCause
  split_ifs <;> simp [ConnConfig.Legal] <;> tauto

end Sys2Proof.Machine
end

section
/-! The invariants of R40: what they say with the link down and with the link up, that every operation
keeps them, and O16 and O17 from that (`spec/10_state.md` R40). -/

namespace Sys2Proof.Machine

/-! ### The invariants with the link down -/

/-- The link is down, nothing is queued and no exchange is outstanding: what RESET and FAIL_ALL leave
(R41, R190). -/
structure Fcb.Flushed (f : Fcb) : Prop where
  link : f.link = false
  reqq : f.reqq = []
  txq : f.txq = []
  rxbuf : f.rxbuf = []
  cst : f.cst = .idle
  timer : f.timer = 0#16
  consecTo : f.consecTo = 0#8
  forceReconnect : f.forceReconnect = false

/-- With the link down everything is flushed (R40(b)). -/
theorem BlockInv.flushed {s : State} (h : BlockInv s) (hl : s.fcb.link = false) :
    s.fcb.Flushed := by
  obtain ⟨hq, htx, hrx, hc, hn, hf⟩ := h.unlinked hl
  exact ⟨hl, hq, htx, hrx, hc, h.idleTimer hc, hn, hf⟩

theorem rxVerdict_of_empty {s : State} (h : s.fcb.rxbuf = []) : rxVerdict s = .needMoreData :=
  parse_needMoreData_of_short _ _ _ _ _ (by simp [h])

/-- With everything flushed R40 asks for no more than a legal configuration once enabled. -/
theorem blockInv_of_flushed {s : State} (hp : s.params.Legal) (h : s.fcb.Flushed)
    (hconf : s.fcb.en = true → s.fcb.conf.Legal) : BlockInv s where
  params := hp
  disabled := fun _ => h.link
  unlinked := fun _ => ⟨h.reqq, h.txq, h.rxbuf, h.cst, h.consecTo, h.forceReconnect⟩
  idleTimer := fun _ => h.timer
  waitTimer := fun hw => by simp [h.cst] at hw
  queues := by simp [h.reqq, h.txq]
  settled := issueEnabled_of_unlinked h.link
  incomplete := rxVerdict_of_empty h.rxbuf
  rxLevel := by simp [h.rxbuf, hdrW]; omega
  legal := hconf
  descriptors := by simp [h.reqq]

/-! ### The invariants with the link up -/

/-- R40 inside a connection, but for (e) and (g): what holds also in the middle of an operation, before
DEFRAME and SETTLE have run. -/
structure Connected (s : State) : Prop where
  params : s.params.Legal
  en : s.fcb.en = true
  link : s.fcb.link = true
  timer : s.fcb.cst = .idle ↔ s.fcb.timer = 0#16
  reqq : s.fcb.reqq.length ≤ s.params.qdepth
  txq : s.fcb.txq.length ≤ s.params.txqBytes
  conf : s.fcb.conf.Legal
  descriptors : ∀ d ∈ s.fcb.reqq, d.Legal s.params

theorem BlockInv.en_of_linked {s : State} (h : BlockInv s) (hl : s.fcb.link = true) :
    s.fcb.en = true := by
  cases he : s.fcb.en with
  | true => rfl
  | false => exact absurd (h.disabled he) (by simp [hl])

theorem BlockInv.connected {s : State} (h : BlockInv s) (hl : s.fcb.link = true) : Connected s where
  params := h.params
  en := h.en_of_linked hl
  link := hl
  timer := by
    cases hc : s.fcb.cst with
    | idle => simp [h.idleTimer hc]
    | wait => simp [h.waitTimer hc]
  reqq := h.queues.1
  txq := h.queues.2
  conf := h.legal (h.en_of_linked hl)
  descriptors := h.descriptors

/-- Once nothing can be issued and PARSE asks for more data, R40 holds whole. -/
theorem Connected.blockInv {s : State} (h : Connected s) (hsettled : issueEnabled s = false)
    (hv : rxVerdict s = .needMoreData) : BlockInv s where
  params := h.params
  disabled := fun he => by simp [h.en] at he
  unlinked := fun hl => by simp [h.link] at hl
  idleTimer := h.timer.mp
  waitTimer := fun hw ht => by simp [h.timer.mpr ht] at hw
  queues := ⟨h.reqq, h.txq⟩
  settled := hsettled
  incomplete := hv
  rxLevel := length_of_needMoreData _ _ _ _ _ hv
  legal := fun _ => h.conf
  descriptors := h.descriptors

/-! ### The internal steps inside a connection -/

/-- No exchange starts with its timer at 0 (R40(c), R183). -/
theorem exchangeTimeout_ne_zero {c : ConnConfig} (h : c.Legal) (d : Descriptor) :
    exchangeTimeout c d ≠ 0#16 := by
  obtain ⟨_, _, _, _, hto⟩ := h
  unfold exchangeTimeout
  split
  · assumption
  · exact hto

theorem Connected.issueHead {s : State} {d : Descriptor} {rest : List Descriptor} (h : Connected s)
    (hq : s.fcb.reqq = d :: rest)
    (hfit : frameLen s.fcb.conf d.payload.length ≤ s.params.txqBytes - s.fcb.txq.length) :
    Connected (issueHead d rest s) where
  params := h.params
  en := h.en
  link := h.link
  timer := by simp [exchangeTimeout_ne_zero h.conf d]
  reqq := by
    have := h.reqq
    simp [hq] at this ⊢
    omega
  txq := by
    have := h.txq
    simp [requestFrame]
    omega
  conf := h.conf
  descriptors := fun e he => h.descriptors e (hq ▸ List.mem_cons_of_mem d he)

/-- SETTLE re-establishes R40(e): after it the lock is held or nothing can be issued (R184). -/
theorem Connected.settle {s : State} (h : Connected s) (hv : rxVerdict s = .needMoreData) :
    BlockInv (settle s) := by
  rcases settle_cases s with ⟨hsettled, e⟩ | ⟨d, rest, hq, _, _, _, hfit, e⟩ <;> rw [e]
  · exact h.blockInv hsettled hv
  · exact (h.issueHead hq hfit).blockInv (issueEnabled_of_wait rfl) hv

/-- A turn of DEFRAME leaves the exchange as it is or ends it (R156, R186). -/
theorem deframeTurn_exchange {s t : State} (h : DeframeTurn s t) :
    (t.fcb.cst = s.fcb.cst ∧ t.fcb.timer = s.fcb.timer)
    ∨ (t.fcb.cst = .idle ∧ t.fcb.timer = 0#16) := by
  rcases h with ⟨_, rfl⟩ | ⟨n, _, rfl⟩ | ⟨m, n, _, rfl⟩
  · exact .inl ⟨rfl, rfl⟩
  · exact .inl ⟨rfl, rfl⟩
  · rcases deliver_cases m (countRxOk (dropRx n s)) with ⟨_, e⟩ | ⟨_, e⟩ <;> rw [e]
    · exact .inr ⟨rfl, rfl⟩
    · exact .inl ⟨rfl, rfl⟩

theorem Connected.deframeTurn {s t : State} (h : Connected s) (ht : DeframeTurn s t) :
    Connected t := by
  have k := deframeTurn_keeps ht
  exact {
    params := k.params ▸ h.params
    en := k.en.trans h.en
    link := k.link.trans h.link
    timer := by
      rcases deframeTurn_exchange ht with ⟨hc, htm⟩ | ⟨hc, htm⟩
      · rw [hc, htm]; exact h.timer
      · simp [hc, htm]
    reqq := by rw [k.reqq, k.params]; exact h.reqq
    txq := by rw [k.txq, k.params]; exact h.txq
    conf := by rw [k.conf]; exact h.conf
    descriptors := by rw [k.reqq, k.params]; exact h.descriptors }

theorem Connected.deframe {s : State} (h : Connected s) : Connected (deframe s) :=
  deframe_induction (fun s t => Connected s → Connected t) (fun _ _ h => h)
    (fun _ _ _ ht k h => k (h.deframeTurn ht)) s h

/-- TICK ends an exchange with its timer at 0, and else leaves its timer above 0 (R187, R188). -/
theorem Connected.tickTimer {s : State} (h : Connected s) : Connected (tickTimer s) := by
  rcases tickTimer_cases s with ⟨_, e⟩ | ⟨hc, ht, e⟩ | ⟨_, _, e⟩ <;> rw [e]
  · exact h
  · exact { h with timer := by simp [hc, ht] }
  · exact { h with timer := by simp }

/-- TICK before SETTLE does not look at RXBUF. -/
theorem rxVerdict_tickTimer (s : State) : rxVerdict (tickTimer s) = rxVerdict s := by
  rcases tickTimer_cases s with ⟨_, e⟩ | ⟨_, _, e⟩ | ⟨_, _, e⟩ <;> rw [e] <;> rfl

/-! ### Every operation keeps the invariants -/

/-- R40 speaks of the block and the parameters alone, not of the ports. -/
theorem BlockInv.of_fcb_eq {s t : State} (h : BlockInv s) (hp : t.params = s.params)
    (hf : t.fcb = s.fcb) : BlockInv t := by
  obtain ⟨p, f, port⟩ := s
  obtain ⟨q, g, port'⟩ := t
  cases hp
  cases hf
  exact { h with }

/-- SETTLE finds nothing to issue between operations (R40(e), R184). -/
theorem BlockInv.settle {s : State} (h : BlockInv s) : BlockInv (settle s) := by
  rw [settle_of_not_enabled h.settled]; exact h

theorem BlockInv.respond {s : State} (h : BlockInv s) (status : CtlStatus) (v : Word) :
    BlockInv (respond status v s) := h.of_fcb_eq rfl rfl

theorem BlockInv.emit {s : State} (h : BlockInv s) (r : CplRecord) : BlockInv (emit r s) :=
  h.of_fcb_eq rfl rfl

theorem BlockInv.takeRecord {s : State} (h : BlockInv s) (r : CplRecord) :
    BlockInv (takeRecord r s) :=
  h.of_fcb_eq (takeRecord_keeps r s).1 (takeRecord_keeps r s).2

/-- FAIL_ALL flushes everything and brings the link down (R190). -/
theorem BlockInv.failAll {s : State} (h : BlockInv s) : BlockInv (failAll s) :=
  blockInv_of_flushed h.params ⟨rfl, rfl, rfl, rfl, rfl, rfl, rfl, rfl⟩ h.legal

theorem BlockInv.dropLink {s : State} (h : BlockInv s) : BlockInv (dropLink s) := by
  unfold Machine.dropLink
  split
  · exact h.failAll
  · exact h

theorem dropLink_link (s : State) : (dropLink s).fcb.link = false := by
  cases hl : s.fcb.link <;> simp [dropLink, hl]

theorem BlockInv.csrRead {s : State} (h : BlockInv s) (n : Byte) : BlockInv (csrRead n s) := by
  unfold Machine.csrRead
  split <;> exact h.respond _ _

/-- An enable attempt passes for a legal configuration only, and what it does not pass changes no more
than the error flags (R224). -/
theorem BlockInv.enable {s : State} (h : BlockInv s) (he : s.fcb.en = false) :
    BlockInv (enable s) := by
  have hflushed := h.flushed (h.disabled he)
  unfold Machine.enable
  dsimp only
  split
  case isTrue hcause =>
    have hlegal := (configCause_eq_zero_iff s.fcb.conf).mp hcause
    refine .respond ?_ _ _
    exact blockInv_of_flushed h.params { hflushed with } fun _ => hlegal
  case isFalse =>
    refine .respond ?_ _ _
    exact blockInv_of_flushed h.params { hflushed with } h.legal

theorem BlockInv.disable {s : State} (h : BlockInv s) : BlockInv (disable s) := by
  have hflushed := h.dropLink.flushed (dropLink_link s)
  refine .respond ?_ _ _
  exact blockInv_of_flushed h.dropLink.params { hflushed with } nofun

/-- Every CSR_WRITE that stores anything does so with the link down, where the queues are empty and
RXBUF cannot be read anew under another configuration (R228). -/
theorem BlockInv.csrWrite {s : State} (h : BlockInv s) (n : Byte) (v : Word) :
    BlockInv (csrWrite n v s) := by
  rcases csrWrite_cases n v s with ⟨status, e⟩ | ⟨_, hl, e⟩ | ⟨c, _, he, e⟩ | ⟨_, _, he, e⟩ | ⟨_, _, _, e⟩
    <;> rw [e]
  · exact h.respond _ _
  · refine .respond ?_ _ _
    exact blockInv_of_flushed h.params { h.flushed hl with } h.legal
  · refine .respond ?_ _ _
    exact blockInv_of_flushed h.params { h.flushed (h.disabled he) with }
      fun he' => absurd (he.symm.trans he') nofun
  · exact h.enable he
  · exact h.disable

/-- LINK_UP starts a connection with everything flushed (R226). -/
theorem BlockInv.linkUp {s : State} (h : BlockInv s) : BlockInv (linkUp s) := by
  unfold Machine.linkUp
  split_ifs with he hl
  · exact h.respond _ _
  · exact h.respond _ _
  · have hflushed := h.flushed (Bool.eq_false_of_not_eq_true hl)
    have hen : s.fcb.en = true := by simpa using he
    have hconn : Connected { s with fcb := { s.fcb with link := true } } := {
      params := h.params
      en := hen
      link := rfl
      timer := by simp [hflushed.cst, hflushed.timer]
      reqq := by simp [hflushed.reqq]
      txq := by simp [hflushed.txq]
      conf := h.legal hen
      descriptors := by simp [hflushed.reqq] }
    exact (hconn.blockInv (issueEnabled_of_empty hflushed.reqq)
      (rxVerdict_of_empty hflushed.rxbuf)).respond _ _

theorem BlockInv.linkDown {s : State} (h : BlockInv s) : BlockInv (linkDown s) := by
  unfold Machine.linkDown
  split
  · exact h.respond _ _
  · exact h.dropLink.respond _ _

/-- A descriptor is queued only where there is room (R40(d), R194). -/
theorem BlockInv.sendRequest {s : State} (h : BlockInv s) (hr : reqReady s = true)
    (bs : List Byte) : BlockInv (sendRequest bs s) := by
  rcases sendRequest_cases bs s with ⟨r, e⟩ | ⟨d, hd, _, hl, e⟩ <;> rw [e]
  · exact h.emit r
  · have hroom := reqq_ne_qdepth_of_reqReady hr hl
    have hconn : Connected { s with fcb := { s.fcb with reqq := s.fcb.reqq ++ [d] } } := {
      h.connected hl with
      reqq := by
        have := h.queues.1
        simp
        omega
      descriptors := by
        intro e he
        rcases List.mem_append.mp he with hold | hnew
        · exact h.descriptors e hold
        · exact List.mem_singleton.mp hnew ▸ hd }
    exact hconn.settle h.incomplete

/-- DEFRAME re-establishes R40(g) and SETTLE R40(e) after a received byte (R155). -/
theorem BlockInv.receiveByte {s : State} (h : BlockInv s) (b : Byte) :
    BlockInv (receiveByte b s) := by
  rcases receiveByte_cases b s with ⟨_, e⟩ | ⟨_, hl, e⟩ <;> rw [e]
  · exact { h with }
  · have hconn : Connected { s with fcb := { s.fcb with rxbuf := s.fcb.rxbuf ++ [b] } } :=
      { h.connected hl with }
    exact hconn.deframe.settle (rxVerdict_deframe _)

/-- A byte handed over makes room in TXQ, which SETTLE may use (R161). -/
theorem BlockInv.popByte {s : State} (h : BlockInv s) : BlockInv (popByte s) := by
  rcases popByte_cases s with ⟨_, e⟩ | ⟨b, rest, hq, e⟩ <;> rw [e]
  · exact h
  · have hl : s.fcb.link = true := by
      by_contra hl
      simp [(h.flushed (Bool.eq_false_of_not_eq_true hl)).txq] at hq
    have hconn : Connected { s with
        fcb := { s.fcb with txq := rest }
        port := { s.port with txTrace := s.port.txTrace ++ [b] } } := {
      h.connected hl with
      txq := by
        have := h.queues.2
        simp [hq] at this ⊢
        omega }
    exact hconn.settle h.incomplete

theorem BlockInv.tick {s : State} (h : BlockInv s) : BlockInv (Machine.settle (tickTimer s)) := by
  cases hl : s.fcb.link with
  | true => exact (h.connected hl).tickTimer.settle ((rxVerdict_tickTimer s).trans h.incomplete)
  | false =>
    have hidle : tickTimer s = s := by simp [Machine.tickTimer, (h.flushed hl).cst]
    rw [hidle]
    exact h.settle

theorem BlockInv.wireBytes {s : State} (h : BlockInv s) (dir : Dir) (bs : List Byte) :
    BlockInv (wireBytes dir bs s) :=
  wireBytes_induction (fun s t => BlockInv s → BlockInv t) (fun _ h => h)
    (fun _ _ _ hst htu h => htu (hst h)) (fun b _ h => h.receiveByte b) (fun _ h => h.popByte)
    dir bs s h

/-- The reset state of the block meets R40 under all legal parameters (R41). -/
theorem blockInv_of_reset {s : State} (hp : s.params.Legal) (hf : s.fcb = Fcb.reset) :
    BlockInv s := by
  have hflushed : Fcb.reset.Flushed := ⟨rfl, rfl, rfl, rfl, rfl, rfl, rfl, rfl⟩
  exact blockInv_of_flushed hp (hf ▸ hflushed) (by rw [hf]; exact nofun)

/-- Every operation keeps the invariants of R40. -/
theorem BlockInv.exec {s t : State} {i : Instr} (hs : BlockInv s) (h : exec i s = .next t) :
    BlockInv t := by
  cases i with cases h
  | nop | ctlReserved _ _ _ => exact (hs.respond _ _).settle
  | csrRead n => exact (hs.csrRead n).settle
  | csrWrite n v => exact (hs.csrWrite n v).settle
  | linkUp => exact hs.linkUp.settle
  | linkDown => exact hs.linkDown.settle
  | send bs =>
    split
    case isTrue hr => exact hs.sendRequest hr bs
    case isFalse => exact hs.of_fcb_eq rfl rfl
  | cplOk | cplTimeout | cplConnectionLost | cplNotConnected | cplNotConfigured | cplBadRequest
    | cplUnsolicited => exact hs.takeRecord _
  | frame dir ty seq body csum => exact hs.wireBytes dir _
  | rxByte b => exact hs.receiveByte b
  | txPop => exact hs.popByte
  | tick => exact hs.tick
  | reset => exact blockInv_of_reset hs.params rfl

/-- A stimulus that is no row of the opcode table keeps the invariants of R40 as well (R250). -/
theorem BlockInv.runUnlisted {s : State} (h : BlockInv s) (e : PortEvent) :
    BlockInv (runUnlisted e s) := by
  cases e with
  | wire dir bytes => exact h.wireBytes dir bytes
  | cplByte taken =>
    obtain ⟨hp, hf, _⟩ := streamByte_keeps taken s
    exact h.of_fcb_eq hp hf
  | ctl _ _ | req _ | reqSample | cpl _ | rx _ | txReady _ | tick _ | rst _ => exact h

/-- Settles O16: the default parameters are legal, and everything is flushed. -/
theorem invHoldsAtReset : Obligations.InvHoldsAtReset :=
  blockInv_of_reset (by decide) rfl

/-- Settles O17: what a step takes from the ports changes nothing of the block, and every operation
keeps the invariants. -/
theorem stepKeepsInv : Obligations.StepKeepsInv := by
  intro s t hs h
  obtain ⟨u, hp, hf, rfl | ⟨i, hi⟩ | ⟨e, rfl⟩⟩ := step_cases h <;> have hu := hs.of_fcb_eq hp hf
  · exact hu
  · exact hu.exec hi
  · exact hu.runUnlisted e

end Sys2Proof.Machine
end

section
/-! The two sticky flags, and O56 from what each operation does to them (`spec/10_state.md` R42,
`spec/42_correlator.md` R189). -/

namespace Sys2Proof.Machine

/-- FORCE_RECONNECT and SEQ_WRAP, where they are set in `s`, are still set in `t` (R42). -/
structure FlagsStay (s t : State) : Prop where
  forceReconnect : s.fcb.forceReconnect = true → t.fcb.forceReconnect = true
  seqWrap : s.fcb.seqWrap = true → t.fcb.seqWrap = true

theorem FlagsStay.of_fcb_eq {s t : State} (h : t.fcb = s.fcb) : FlagsStay s t :=
  ⟨fun hf => h ▸ hf, fun hw => h ▸ hw⟩

theorem FlagsStay.trans {s t u : State} (h : FlagsStay s t) (k : FlagsStay t u) : FlagsStay s u :=
  ⟨k.forceReconnect ∘ h.forceReconnect, k.seqWrap ∘ h.seqWrap⟩

theorem FlagsStay.neither_falls {s t : State} {p q : Prop} (h : FlagsStay s t) :
    (s.fcb.forceReconnect = true → t.fcb.forceReconnect = false → p)
    ∧ (s.fcb.seqWrap = true → t.fcb.seqWrap = false → q) :=
  ⟨fun hf hf' => absurd ((h.forceReconnect hf).symm.trans hf') nofun,
    fun hw hw' => absurd ((h.seqWrap hw).symm.trans hw') nofun⟩

/-! ### The internal steps -/

/-- ISSUE may set SEQ_WRAP and clears neither flag (R183). -/
theorem flagsStay_settle (s : State) : FlagsStay s (settle s) := by
  rcases settle_cases s with ⟨_, e⟩ | ⟨d, rest, _, _, _, _, _, e⟩ <;> rw [e]
  · exact .of_fcb_eq rfl
  · exact ⟨id, fun hw => by simp [hw]⟩

theorem FlagsStay.settle {s t : State} (h : FlagsStay s t) : FlagsStay s (settle t) :=
  h.trans (flagsStay_settle t)

theorem FlagsStay.deframe {s t : State} (h : FlagsStay s t) : FlagsStay s (deframe t) :=
  h.trans ⟨fun hf => (deframe_keeps t).forceReconnect.trans hf,
    fun hw => (deframe_keeps t).seqWrap.trans hw⟩

/-- A timeout may set FORCE_RECONNECT and clears neither flag (R189). -/
theorem flagsStay_tickTimer (s : State) : FlagsStay s (tickTimer s) := by
  rcases tickTimer_cases s with ⟨_, e⟩ | ⟨_, _, e⟩ | ⟨_, _, e⟩ <;> rw [e]
  · exact .of_fcb_eq rfl
  · exact ⟨id, id⟩
  · exact ⟨fun hf => by simp [hf], id⟩

theorem flagsStay_receiveByte (b : Byte) (s : State) : FlagsStay s (receiveByte b s) := by
  rcases receiveByte_cases b s with ⟨_, e⟩ | ⟨_, _, e⟩ <;> rw [e]
  · exact ⟨id, id⟩
  · exact .settle (.deframe ⟨id, id⟩)

theorem flagsStay_popByte (s : State) : FlagsStay s (popByte s) := by
  rcases popByte_cases s with ⟨_, e⟩ | ⟨b, rest, _, e⟩ <;> rw [e]
  · exact .of_fcb_eq rfl
  · exact .settle ⟨id, id⟩

theorem flagsStay_sendRequest (bs : List Byte) (s : State) : FlagsStay s (sendRequest bs s) := by
  rcases sendRequest_cases bs s with ⟨r, e⟩ | ⟨d, _, _, _, e⟩ <;> rw [e]
  · exact .of_fcb_eq rfl
  · exact .settle ⟨id, id⟩

theorem flagsStay_csrRead (n : Byte) (s : State) : FlagsStay s (csrRead n s) := by
  unfold csrRead
  split <;> exact .of_fcb_eq rfl

theorem flagsStay_linkUp (s : State) : FlagsStay s (linkUp s) := by
  unfold linkUp
  split_ifs <;> exact ⟨id, id⟩

theorem flagsStay_enable (s : State) : FlagsStay s (enable s) := by
  unfold enable
  dsimp only
  split <;> exact ⟨id, id⟩

/-! ### The three operations that clear a flag -/

theorem dropLink_seqWrap (s : State) : (dropLink s).fcb.seqWrap = s.fcb.seqWrap := by
  unfold dropLink
  split <;> rfl

theorem linkDown_seqWrap (s : State) : (linkDown s).fcb.seqWrap = s.fcb.seqWrap := by
  unfold linkDown
  split
  · rfl
  · exact dropLink_seqWrap s

/-- A CSR_WRITE keeps both flags, or it is a disable, which keeps SEQ_WRAP, or it writes TX_SEQ, which
keeps FORCE_RECONNECT (R28, R225). -/
theorem csrWrite_flags (n : Byte) (v : Word) (s : State) :
    FlagsStay s (csrWrite n v s)
    ∨ (n = 0x00#8 ∧ v.getLsbD 0 = false ∧ (csrWrite n v s).fcb.seqWrap = s.fcb.seqWrap)
    ∨ (n = 0x07#8 ∧ (csrWrite n v s).fcb.forceReconnect = s.fcb.forceReconnect) := by
  rcases csrWrite_cases n v s with ⟨_, e⟩ | ⟨hn, _, e⟩ | ⟨_, _, _, e⟩ | ⟨_, _, _, e⟩ | ⟨hn, hv, _, e⟩
    <;> rw [e]
  · exact .inl (.of_fcb_eq rfl)
  · exact .inr (.inr ⟨hn, rfl⟩)
  · exact .inl ⟨id, id⟩
  · exact .inl (flagsStay_enable s)
  · exact .inr (.inl ⟨hn, hv, dropLink_seqWrap s⟩)

/-- Every operation but CSR_WRITE, LINK_DOWN and RESET keeps both flags. -/
theorem flagsStay_exec {s t : State} {i : Instr} (h : exec i s = .next t)
    (hwrite : ∀ n v, i ≠ .csrWrite n v) (hdown : i ≠ .linkDown) (hreset : i ≠ .reset) :
    FlagsStay s t := by
  cases i with cases h
  | nop | ctlReserved _ _ _ => exact .settle ⟨id, id⟩
  | csrRead n => exact (flagsStay_csrRead n s).settle
  | linkUp => exact (flagsStay_linkUp s).settle
  | send bs =>
    split
    · exact flagsStay_sendRequest bs s
    · exact .of_fcb_eq rfl
  | cplOk | cplTimeout | cplConnectionLost | cplNotConnected | cplNotConfigured | cplBadRequest
    | cplUnsolicited => exact .of_fcb_eq (takeRecord_keeps _ s).2
  | frame dir ty seq body csum =>
    exact wireBytes_induction FlagsStay (fun _ => .of_fcb_eq rfl) (fun _ _ _ => .trans)
      flagsStay_receiveByte flagsStay_popByte dir _ s
  | rxByte b => exact flagsStay_receiveByte b s
  | txPop => exact flagsStay_popByte s
  | tick => exact (flagsStay_tickTimer s).settle
  | csrWrite n v => exact absurd rfl (hwrite n v)
  | linkDown => exact absurd rfl hdown
  | reset => exact absurd rfl hreset

/-- Settles O56: LINK_DOWN keeps SEQ_WRAP, a CSR_WRITE clears at most one flag, RESET may clear both,
and every other operation keeps both. -/
theorem stickyFlagsFallOnlyAsSaid : Obligations.StickyFlagsFallOnlyAsSaid := by
  intro i s t h
  by_cases hreset : i = .reset
  · exact ⟨fun _ _ => .inr (.inl hreset), fun _ _ => .inl hreset⟩
  by_cases hdown : i = .linkDown
  · subst hdown
    cases h
    refine ⟨fun _ _ => .inl rfl, fun hw hw' => ?_⟩
    simp [(flagsStay_settle _).seqWrap ((linkDown_seqWrap s).trans hw)] at hw'
  by_cases hwrite : ∃ n v, i = .csrWrite n v
  · obtain ⟨n, v, rfl⟩ := hwrite
    cases h
    rcases csrWrite_flags n v s with hstay | ⟨rfl, hv, hw⟩ | ⟨rfl, hf⟩
    · exact hstay.settle.neither_falls
    · refine ⟨fun _ _ => .inr (.inr ⟨v, rfl, hv⟩), fun hs hs' => ?_⟩
      simp [(flagsStay_settle _).seqWrap (hw.trans hs)] at hs'
    · refine ⟨fun hs hs' => ?_, fun _ _ => .inr ⟨v, rfl⟩⟩
      simp [(flagsStay_settle _).forceReconnect (hf.trans hs)] at hs'
  · exact (flagsStay_exec h (fun n v hi => hwrite ⟨n, v, hi⟩) hdown hreset).neither_falls

end Sys2Proof.Machine
end

section
/-! What CSR_READ answers, register by register and field by field, and O23 to O26 from it
(`spec/10_state.md` R21 to R33, `spec/43_control.md` R222). -/

namespace Sys2Proof.Machine

/-! ### CSR_READ -/

/-- An answer alone leaves nothing to issue, so SETTLE adds nothing to it (R184). -/
theorem settle_respond {s : State} (hs : issueEnabled s = false) (status : CtlStatus) (v : Word) :
    settle (respond status v s) = answered s status v :=
  settle_of_not_enabled (s := respond status v s) hs

/-- CSR_READ of a defined register answers its value and changes nothing (R65, R222). -/
theorem exec_csrRead_defined {n : Byte} (c : Csr) {s : State} (hn : csrOf n = some c)
    (hs : issueEnabled s = false) :
    exec (.csrRead n) s = .next (answered s .ok (csrValue s.fcb c)) := by
  have hread : csrRead n s = respond .ok (csrValue s.fcb c) s := by simp [csrRead, hn]
  exact congrArg Host.Outcome.next ((congrArg settle hread).trans (settle_respond hs _ _))

/-- CSR_READ of an undefined number answers BAD_CSR and changes nothing (R222). -/
theorem exec_csrRead_undefined {n : Byte} {s : State} (hn : csrOf n = none)
    (hs : issueEnabled s = false) : exec (.csrRead n) s = .next (answered s .badCsr 0#32) := by
  have hread : csrRead n s = respond .badCsr 0#32 s := by simp [csrRead, hn]
  exact congrArg Host.Outcome.next ((congrArg settle hread).trans (settle_respond hs _ _))

/-- The undefined ranges of R21. -/
theorem csrOf_eq_none {n : Byte}
    (h : (0x0B ≤ n.toNat ∧ n.toNat ≤ 0x0F) ∨ n.toNat = 0x17 ∨ 0x19 ≤ n.toNat) :
    csrOf n = none := by
  unfold csrOf
  split
  case h_20 => rfl
  all_goals omega

/-- CTRL reads as EN in bit 0 (R22). -/
theorem ctrlWord_eq (f : Fcb) : ctrlWord f = if f.en then 1#32 else 0#32 := by
  unfold ctrlWord
  cases f.en <;> rfl

/-- Settles O23, register by register. -/
theorem csrReadAnswersTheRegister : Obligations.CsrReadAnswersTheRegister := by
  intro s hs
  rw [← ctrlWord_eq]
  have read {n : Byte} (c : Csr) (hn : csrOf n = some c) := exec_csrRead_defined c hn hs
  exact ⟨read .ctrl rfl, read .key0 rfl, read .key1 rfl, read .reqTimeout rfl, read .toLimit rfl,
    read .txSeq rfl, read .timer rfl, read .consecTo rfl, read .cntTx rfl, read .cntRxOk rfl,
    read .cntCsumErr rfl, read .cntMalformed rfl, read .cntUnsol rfl, read .cntTimeout rfl,
    read .cntRxDiscard rfl, fun n hn => exec_csrRead_undefined (csrOf_eq_none hn) hs⟩

/-! ### The layout of the words with several fields -/

/-- The one-bit fields of STATUS (R23). -/
theorem statusWord_bits (f : Fcb) :
    (statusWord f).getLsbD 0 = f.en ∧ (statusWord f).getLsbD 1 = f.cfgErr
    ∧ (statusWord f).getLsbD 2 = f.link ∧ (statusWord f).getLsbD 3 = busy f
    ∧ (statusWord f).getLsbD 4 = f.forceReconnect ∧ (statusWord f).getLsbD 5 = f.seqWrap
    ∧ (statusWord f).getLsbD 6 = encOn f ∧ (statusWord f).getLsbD 7 = false := by
  unfold statusWord
  refine ⟨?_, ?_, ?_, ?_, ?_, ?_, ?_, ?_⟩ <;>
  · repeat rw [BitVec.getLsbD_append, if_neg (by decide)]
    rw [BitVec.getLsbD_append, if_pos (by decide)]
    simp

/-- The wider fields of STATUS (R23). -/
theorem statusWord_fields (f : Fcb) :
    (statusWord f).extractLsb' 8 4 = f.cfgErrCause
    ∧ (statusWord f).extractLsb' 12 4 = BitVec.ofNat 4 f.reqq.length
    ∧ (statusWord f).extractLsb' 16 4 = f.out.tag ∧ (statusWord f).extractLsb' 20 12 = 0#12 := by
  unfold statusWord
  refine ⟨?_, ?_, ?_, ?_⟩ <;> repeat rw [BitVec.extractLsb'_append_eq_of_le (by decide)]
  exacts [BitVec.extractLsb'_append_eq_right, BitVec.extractLsb'_append_eq_right,
    BitVec.extractLsb'_append_eq_right, BitVec.extractLsb'_eq_self]

/-- The fields of CFG (R24). -/
theorem cfgWord_fields (c : ConnConfig) :
    (cfgWord c).extractLsb' 0 4 = c.keyLen ∧ (cfgWord c).extractLsb' 4 2 = c.gen
    ∧ (cfgWord c).extractLsb' 6 2 = c.matchMode ∧ (cfgWord c).extractLsb' 8 2 = c.csumAlg
    ∧ (cfgWord c).extractLsb' 10 22 = 0#22 := by
  unfold cfgWord
  refine ⟨?_, ?_, ?_, ?_, ?_⟩ <;> repeat rw [BitVec.extractLsb'_append_eq_of_le (by decide)]
  exacts [BitVec.extractLsb'_append_eq_right, BitVec.extractLsb'_append_eq_right,
    BitVec.extractLsb'_append_eq_right, BitVec.extractLsb'_append_eq_right,
    BitVec.extractLsb'_eq_self]

/-- The fields of OUT (R31). -/
theorem outWord_fields (o : OutReg) :
    (outWord o).extractLsb' 0 16 = o.seq ∧ (outWord o).extractLsb' 16 8 = o.ty
    ∧ (outWord o).extractLsb' 24 8 = o.expTy := by
  unfold outWord
  refine ⟨?_, ?_, ?_⟩ <;> repeat rw [BitVec.extractLsb'_append_eq_of_le (by decide)]
  exacts [BitVec.extractLsb'_append_eq_right, BitVec.extractLsb'_append_eq_right,
    BitVec.extractLsb'_eq_self]

theorem levelField_toNat (n : Nat) : (levelField n).toNat = min n 65535 := by
  simp [levelField]

/-- The fields of LEVELS (R33). -/
theorem levelsWord_fields (f : Fcb) :
    (levelsWord f).extractLsb' 0 16 = levelField f.txq.length
    ∧ (levelsWord f).extractLsb' 16 16 = levelField f.rxbuf.length :=
  ⟨BitVec.extractLsb'_append_eq_right, BitVec.extractLsb'_append_eq_left⟩

/-- Settles O24; REQQ_LEVEL is the length itself, since that fits its four bits. -/
theorem statusReadLayout : Obligations.StatusReadLayout := by
  intro s hs hlen
  obtain ⟨hen, herr, hlink, hbusy, hforce, hwrap, henc, hzero⟩ := statusWord_bits s.fcb
  obtain ⟨hcause, hlevel, htag, hrsv⟩ := statusWord_fields s.fcb
  refine ⟨statusWord s.fcb, exec_csrRead_defined .status rfl hs, hen, herr, hlink, hbusy, hforce, hwrap,
    henc, hzero, hcause, ?_, htag, hrsv⟩
  rw [hlevel, BitVec.toNat_ofNat]
  omega

/-- Settles O25. -/
theorem cfgOutLevelsReadLayout : Obligations.CfgOutLevelsReadLayout := by
  intro s hs
  obtain ⟨htx, hrx⟩ := levelsWord_fields s.fcb
  exact ⟨⟨_, exec_csrRead_defined .cfg rfl hs, cfgWord_fields s.fcb.conf⟩,
    ⟨_, exec_csrRead_defined .out rfl hs, outWord_fields s.fcb.out⟩,
    ⟨_, exec_csrRead_defined .levels rfl hs, htx ▸ levelField_toNat _, hrx ▸ levelField_toNat _⟩⟩

/-! ### The key -/

/-- No register's value depends on the key (R25, R265). -/
theorem csrValue_of_other_key (f : Fcb) (k : Block) (c : Csr) :
    csrValue { f with conf := { f.conf with key := k } } c = csrValue f c := by
  cases c <;> rfl

/-- Settles O26: what a CSR_READ answers is a function of the register's value. -/
theorem keyCannotBeReadBack : Obligations.KeyCannotBeReadBack := by
  intro n s k hs s'
  have hs' : issueEnabled s' = false := hs
  cases hn : csrOf n with
  | none => exact ⟨_, _, exec_csrRead_undefined hn hs, exec_csrRead_undefined hn hs'⟩
  | some c =>
    refine ⟨_, _, exec_csrRead_defined c hn hs, ?_⟩
    rw [← csrValue_of_other_key s.fcb k c]
    exact exec_csrRead_defined c hn hs'

end Sys2Proof.Machine
end

section
/-! What CSR_WRITE stores, the reset values and the discarded byte: O15, O28, O29 and O38
(`spec/10_state.md` R32, R41, `spec/43_control.md` R223). -/

namespace Sys2Proof.Machine

/-- A CSR_WRITE that leaves nothing to issue is its write and its answer (R184, R223). -/
theorem exec_csrWrite_of_respond {n : Byte} {v : Word} {s u : State} {status : CtlStatus}
    (hw : csrWrite n v s = respond status 0#32 u) (hu : issueEnabled u = false) :
    exec (.csrWrite n v) s = .next (answered u status 0#32) :=
  congrArg Host.Outcome.next ((congrArg settle hw).trans (settle_respond hu _ _))

/-- Settles O28: none of the five registers is locked while `EN = 0`, and nothing is issued then. -/
theorem csrWriteStoresConfiguration : Obligations.CsrWriteStoresConfiguration := by
  intro v s he
  have store {n : Byte} {conf : ConnConfig}
      (hw : csrWrite n v s = respond .ok 0#32 (withFcb s { s.fcb with conf := conf })) :=
    exec_csrWrite_of_respond hw (issueEnabled_of_disabled he)
  exact ⟨store (csrWrite_accepted .cfg v rfl rfl he),
    store (csrWrite_accepted .key0 v rfl rfl he),
    store (csrWrite_accepted .key1 v rfl rfl he),
    store (csrWrite_accepted .reqTimeout v rfl rfl he),
    store (csrWrite_accepted .toLimit v rfl rfl he)⟩

/-- Settles O29: TX_SEQ is not locked while `LINK = 0`, and nothing is issued then. -/
theorem csrWriteStoresTxSeq : Obligations.CsrWriteStoresTxSeq := by
  intro v s hl
  have hw : csrWrite 0x07#8 v s = respond .ok 0#32
      (withFcb s { s.fcb with txSeq := v.extractLsb' 0 16, seqWrap := false }) :=
    csrWrite_accepted .txSeq v rfl rfl hl
  exact exec_csrWrite_of_respond hw (issueEnabled_of_unlinked hl)

/-- Settles O15: the values of R41, written out. -/
theorem resetPutsEveryValue : Obligations.ResetPutsEveryValue := fun _ => rfl

/-- Settles O38: a byte outside a connection takes the first branch of R155. -/
theorem rxByteOutsideAConnectionIsDiscarded : Obligations.RxByteOutsideAConnectionIsDiscarded := by
  intro b s houtside
  have hdiscard : receiveByte b s = countRxDiscard s := by
    rcases receiveByte_cases b s with ⟨_, e⟩ | ⟨he, hl, _⟩
    · exact e
    · simp [he, hl] at houtside
  exact congrArg Host.Outcome.next hdiscard

end Sys2Proof.Machine
end

section
/-! What has been output stays output, the bytes in TXQ keep their order, and an exchange ends before
the next one begins: O57 and O54 (`spec/20_memory.md` R67, R70, R71, R74). -/

namespace Sys2Proof.Machine

/-! ### The output traces -/

/-- What `s` has output at each port is the beginning of what `t` has output there (R71). -/
structure OutputsExtend (s t : State) : Prop where
  tx : s.port.txTrace <+: t.port.txTrace
  cpl : s.port.cplTrace <+: t.port.cplTrace
  ctl : s.port.ctlTrace <+: t.port.ctlTrace
  stream : s.port.cplStream <+: t.port.cplStream

/-- Besides, the bytes handed over followed by those in TXQ are extended at their end only (R67). -/
structure TxOrderKept (s t : State) : Prop extends OutputsExtend s t where
  order : s.port.txTrace ++ s.fcb.txq <+: t.port.txTrace ++ t.fcb.txq

theorem OutputsExtend.trans {s t u : State} (h : OutputsExtend s t) (k : OutputsExtend t u) :
    OutputsExtend s u :=
  ⟨h.tx.trans k.tx, h.cpl.trans k.cpl, h.ctl.trans k.ctl, h.stream.trans k.stream⟩

theorem TxOrderKept.trans {s t u : State} (h : TxOrderKept s t) (k : TxOrderKept t u) :
    TxOrderKept s u :=
  ⟨h.toOutputsExtend.trans k.toOutputsExtend, h.order.trans k.order⟩

theorem OutputsExtend.of_port_eq {s t : State} (hp : t.port = s.port) : OutputsExtend s t := by
  constructor <;> rw [hp]

theorem TxOrderKept.of_port_eq {s t : State} (hp : t.port = s.port) (hq : t.fcb.txq = s.fcb.txq) :
    TxOrderKept s t :=
  ⟨.of_port_eq hp, by rw [hp, hq]⟩

/-- Emitting records extends the output trace of the CPL port alone (R71). -/
theorem OutputsExtend.of_emitAll {s t : State} {rs : List CplRecord}
    (hp : t.port = (emitAll rs s).port) : OutputsExtend s t := by
  constructor <;> simp [hp]

theorem TxOrderKept.of_emitAll {s t : State} {rs : List CplRecord}
    (hp : t.port = (emitAll rs s).port) (hq : t.fcb.txq = s.fcb.txq) : TxOrderKept s t :=
  ⟨.of_emitAll hp, by simp [hp, hq]⟩

/-- The answer to a CTL command extends the trace of the responses alone (R99). -/
theorem OutputsExtend.of_respond {s t : State} {status : CtlStatus} {v : Word}
    (hp : t.port = (respond status v s).port) : OutputsExtend s t := by
  constructor <;> simp [hp]

theorem TxOrderKept.of_respond {s t : State} {status : CtlStatus} {v : Word}
    (hp : t.port = (respond status v s).port) (hq : t.fcb.txq = s.fcb.txq) : TxOrderKept s t :=
  ⟨.of_respond hp, by simp [hp, hq]⟩

/-! ### The internal steps -/

/-- ISSUE appends its frame to TXQ, whole and behind all that is there (R183). -/
theorem txOrderKept_settle (s : State) : TxOrderKept s (settle s) := by
  rcases settle_cases s with ⟨_, e⟩ | ⟨d, rest, _, _, _, _, _, e⟩ <;> rw [e]
  · exact .of_port_eq rfl rfl
  · exact ⟨.of_port_eq rfl, by simp [← List.append_assoc]⟩

theorem TxOrderKept.settle {s t : State} (h : TxOrderKept s t) : TxOrderKept s (settle t) :=
  h.trans (txOrderKept_settle t)

theorem TxOrderKept.deframe {s t : State} (h : TxOrderKept s t) : TxOrderKept s (deframe t) := by
  obtain ⟨rs, hp⟩ := (deframe_keeps t).port
  exact h.trans (.of_emitAll hp (deframe_keeps t).txq)

theorem txOrderKept_tickTimer (s : State) : TxOrderKept s (tickTimer s) := by
  rcases tickTimer_cases s with ⟨_, e⟩ | ⟨_, _, e⟩ | ⟨_, _, e⟩ <;> rw [e]
  · exact .of_port_eq rfl rfl
  · exact .of_port_eq rfl rfl
  · exact .of_emitAll rfl rfl

/-! ### The operations that do not flush TXQ -/

theorem txOrderKept_receiveByte (b : Byte) (s : State) : TxOrderKept s (receiveByte b s) := by
  rcases receiveByte_cases b s with ⟨_, e⟩ | ⟨_, _, e⟩ <;> rw [e]
  · exact .of_port_eq rfl rfl
  · exact .settle (.deframe (.of_port_eq rfl rfl))

/-- TX_POP moves the head of TXQ to the end of what has been handed over (R161). -/
theorem txOrderKept_popByte (s : State) : TxOrderKept s (popByte s) := by
  rcases popByte_cases s with ⟨_, e⟩ | ⟨b, rest, hq, e⟩ <;> rw [e]
  · exact .of_port_eq rfl rfl
  · exact .settle ⟨⟨by simp, List.prefix_rfl, List.prefix_rfl, List.prefix_rfl⟩, by simp [hq]⟩

theorem txOrderKept_wireBytes (dir : Dir) (bs : List Byte) (s : State) :
    TxOrderKept s (wireBytes dir bs s) :=
  wireBytes_induction TxOrderKept (fun _ => .of_port_eq rfl rfl) (fun _ _ _ => .trans)
    txOrderKept_receiveByte txOrderKept_popByte dir bs s

theorem txOrderKept_sendRequest (bs : List Byte) (s : State) :
    TxOrderKept s (sendRequest bs s) := by
  rcases sendRequest_cases bs s with ⟨r, e⟩ | ⟨d, _, _, _, e⟩ <;> rw [e]
  · exact .of_emitAll (rs := [r]) rfl rfl
  · exact .settle (.of_port_eq rfl rfl)

/-- A crossing record extends the bytes streamed, by what was left of it (R101). -/
theorem txOrderKept_takeRecord (r : CplRecord) (s : State) : TxOrderKept s (takeRecord r s) := by
  unfold takeRecord
  split
  · exact ⟨⟨List.prefix_rfl, List.prefix_rfl, List.prefix_rfl, List.prefix_append _ _⟩,
      List.prefix_rfl⟩
  · exact .of_port_eq rfl rfl

theorem txOrderKept_csrRead (n : Byte) (s : State) : TxOrderKept s (csrRead n s) := by
  unfold csrRead
  split <;> exact .of_respond rfl rfl

theorem txOrderKept_linkUp (s : State) : TxOrderKept s (linkUp s) := by
  unfold linkUp
  split_ifs <;> exact .of_respond rfl rfl

theorem txOrderKept_enable (s : State) : TxOrderKept s (enable s) := by
  unfold enable
  dsimp only
  split <;> exact .of_respond rfl rfl

/-! ### The operations that drop the link -/

/-- The link went down, with the bytes still in TXQ (R190). -/
structure LinkDropped (s t : State) : Prop extends OutputsExtend s t where
  before : s.fcb.link = true
  after : t.fcb.link = false

theorem LinkDropped.settle {s t : State} (h : LinkDropped s t) : LinkDropped s (settle t) := by
  rw [settle_of_not_enabled (issueEnabled_of_unlinked h.after)]
  exact h

theorem dropLink_order (s : State) : TxOrderKept s (dropLink s) ∨ LinkDropped s (dropLink s) := by
  cases hl : s.fcb.link with
  | false => exact .inl (.of_port_eq (by simp [dropLink, hl]) (by simp [dropLink, hl]))
  | true =>
    have hdrop : dropLink s = failAll s := by simp [dropLink, hl]
    rw [hdrop]
    exact .inr ⟨.of_emitAll (rs := lostRecords s.fcb) rfl, hl, rfl⟩

theorem linkDown_order (s : State) : TxOrderKept s (linkDown s) ∨ LinkDropped s (linkDown s) := by
  unfold linkDown
  split
  · exact .inl (.of_respond rfl rfl)
  · rcases dropLink_order s with h | h
    · exact .inl (h.trans (.of_respond rfl rfl))
    · exact .inr ⟨h.toOutputsExtend.trans (.of_respond rfl), h.before, h.after⟩

theorem disable_order (s : State) : TxOrderKept s (disable s) ∨ LinkDropped s (disable s) := by
  rcases dropLink_order s with h | h
  · exact .inl (h.trans (.of_respond rfl rfl))
  · exact .inr ⟨h.toOutputsExtend.trans (.of_respond rfl), h.before, h.after⟩

theorem csrWrite_order (n : Byte) (v : Word) (s : State) :
    TxOrderKept s (csrWrite n v s) ∨ LinkDropped s (csrWrite n v s) := by
  rcases csrWrite_cases n v s with ⟨_, e⟩ | ⟨_, _, e⟩ | ⟨_, _, _, e⟩ | ⟨_, _, _, e⟩ | ⟨_, _, _, e⟩
    <;> rw [e]
  · exact .inl (.of_respond rfl rfl)
  · exact .inl (.of_respond rfl rfl)
  · exact .inl (.of_respond rfl rfl)
  · exact .inl (txOrderKept_enable s)
  · exact disable_order s

/-- Every operation but RESET keeps the order of the bytes in TXQ, or drops the link (R67). -/
theorem exec_order {s t : State} {i : Instr} (h : exec i s = .next t) (hreset : i ≠ .reset) :
    TxOrderKept s t ∨ LinkDropped s t := by
  have settled : ∀ u, TxOrderKept s u ∨ LinkDropped s u →
      TxOrderKept s (settle u) ∨ LinkDropped s (settle u) :=
    fun _ => Or.imp TxOrderKept.settle LinkDropped.settle
  cases i with cases h
  | nop | ctlReserved _ _ _ => exact .inl (.settle (.of_respond rfl rfl))
  | csrRead n => exact .inl (txOrderKept_csrRead n s).settle
  | csrWrite n v => exact settled _ (csrWrite_order n v s)
  | linkUp => exact .inl (txOrderKept_linkUp s).settle
  | linkDown => exact settled _ (linkDown_order s)
  | send bs =>
    split
    · exact .inl (txOrderKept_sendRequest bs s)
    · exact .inl ⟨⟨List.prefix_rfl, List.prefix_rfl, List.prefix_rfl, List.prefix_rfl⟩,
        List.prefix_rfl⟩
  | cplOk | cplTimeout | cplConnectionLost | cplNotConnected | cplNotConfigured | cplBadRequest
    | cplUnsolicited => exact .inl (txOrderKept_takeRecord _ s)
  | frame dir ty seq body csum => exact .inl (txOrderKept_wireBytes dir _ s)
  | rxByte b => exact .inl (txOrderKept_receiveByte b s)
  | txPop => exact .inl (txOrderKept_popByte s)
  | tick => exact .inl (txOrderKept_tickTimer s).settle
  | reset => exact absurd rfl hreset

/-- No operation takes back what has been output, not even RESET (R67, R71). -/
theorem exec_outputsExtend {s t : State} {i : Instr} (h : exec i s = .next t) :
    OutputsExtend s t := by
  by_cases hreset : i = .reset
  · subst hreset
    cases h
    exact ⟨List.prefix_rfl, List.prefix_rfl, List.prefix_rfl, List.prefix_rfl⟩
  · rcases exec_order h hreset with hkept | hdropped
    · exact hkept.toOutputsExtend
    · exact hdropped.toOutputsExtend

/-- Settles O57: RESET and the loss of the link are the only operations that take bytes from TXQ
unsent. -/
theorem outputsKeepTheirOrder : Obligations.OutputsKeepTheirOrder := by
  intro i s t h
  obtain ⟨htx, hcpl, hctl, hstream⟩ := exec_outputsExtend h
  refine ⟨htx, hcpl, hctl, hstream, fun hlink hreset => ?_⟩
  rcases exec_order h hreset with hkept | hdropped
  · exact hkept.order
  · simp [hdropped.before, hdropped.after] at hlink

/-! ### Mutual exclusion -/

/-- The exchange outstanding in `s` is still the one outstanding in `t`, and none was issued. -/
structure ExchangeStands (s t : State) : Prop where
  cst : t.fcb.cst = .wait
  out : t.fcb.out = s.fcb.out
  cntTx : t.fcb.cnt.tx = s.fcb.cnt.tx

/-- Between `s` and `t` the exchange outstanding in `s` got its OK or TIMEOUT record. -/
def ExchangeEnded (s t : State) : Prop :=
  ∃ r rs, t.port.cplTrace = s.port.cplTrace ++ rs ∧ r ∈ rs ∧ r.tag = s.fcb.out.tag
    ∧ (r.status = .ok ∨ r.status = .timeout)

/-- An exchange outstanding in `s` stands in `t` or has ended with its record, and no record has been
taken back. Such steps can be put one after the other. -/
structure LockRespected (s t : State) : Prop where
  trace : s.port.cplTrace <+: t.port.cplTrace
  exchange : s.fcb.cst = .wait → ExchangeStands s t ∨ ExchangeEnded s t

theorem LockRespected.trans {s t u : State} (h : LockRespected s t) (k : LockRespected t u) :
    LockRespected s u := by
  refine ⟨h.trace.trans k.trace, fun hw => ?_⟩
  rcases h.exchange hw with hstands | ⟨r, rs, ht, hr, htag, hst⟩
  · rcases k.exchange hstands.cst with kstands | ⟨r, rs, ku, hr, htag, hst⟩
    · exact .inl ⟨kstands.cst, kstands.out.trans hstands.out, kstands.cntTx.trans hstands.cntTx⟩
    · obtain ⟨qs, ht⟩ := h.trace
      exact .inr ⟨r, qs ++ rs, by rw [ku, ← ht, List.append_assoc], List.mem_append_right _ hr,
        hstands.out ▸ htag, hst⟩
  · obtain ⟨qs, ku⟩ := k.trace
    exact .inr ⟨r, rs ++ qs, by rw [← ku, ht, List.append_assoc], List.mem_append_left _ hr, htag,
      hst⟩

/-- A step that leaves the lock, OUT and CNT_TX alone respects the lock. -/
theorem LockRespected.of_same {s t : State} (trace : s.port.cplTrace <+: t.port.cplTrace)
    (hc : t.fcb.cst = s.fcb.cst) (ho : t.fcb.out = s.fcb.out)
    (hn : t.fcb.cnt.tx = s.fcb.cnt.tx) : LockRespected s t :=
  ⟨trace, fun hw => .inl ⟨hc.trans hw, ho, hn⟩⟩

/-- ISSUE takes a free lock (R182). -/
theorem lockRespected_settle (s : State) : LockRespected s (settle s) := by
  refine ⟨(txOrderKept_settle s).cpl, fun hw => .inl ?_⟩
  rw [settle_of_not_enabled (issueEnabled_of_wait hw)]
  exact ⟨hw, rfl, rfl⟩

theorem LockRespected.settle {s t : State} (h : LockRespected s t) : LockRespected s (settle t) :=
  h.trans (lockRespected_settle t)

/-- A delivered frame leaves the exchange alone or ends it with its OK record (R186). -/
theorem lockRespected_deframeTurn {s t : State} (h : DeframeTurn s t) : LockRespected s t := by
  rcases h with ⟨_, rfl⟩ | ⟨n, _, rfl⟩ | ⟨m, n, _, rfl⟩
  · exact .of_same List.prefix_rfl rfl rfl rfl
  · exact .of_same List.prefix_rfl rfl rfl rfl
  · rcases deliver_cases m (countRxOk (dropRx n s)) with ⟨_, e⟩ | ⟨_, e⟩ <;> rw [e]
    · exact ⟨List.prefix_append _ _,
        fun _ => .inr ⟨_, _, rfl, List.mem_singleton_self _, rfl, .inl rfl⟩⟩
    · exact .of_same (List.prefix_append _ _) rfl rfl rfl

theorem lockRespected_deframe (s : State) : LockRespected s (deframe s) :=
  deframe_induction LockRespected (fun _ _ => .of_same List.prefix_rfl rfl rfl rfl)
    (fun _ _ _ h k => (lockRespected_deframeTurn h).trans k) s

/-- The last tick ends the exchange with its TIMEOUT record (R187, R188). -/
theorem lockRespected_tickTimer (s : State) : LockRespected s (tickTimer s) := by
  rcases tickTimer_cases s with ⟨_, e⟩ | ⟨_, _, e⟩ | ⟨_, _, e⟩ <;> rw [e]
  · exact .of_same List.prefix_rfl rfl rfl rfl
  · exact .of_same List.prefix_rfl rfl rfl rfl
  · exact ⟨List.prefix_append _ _,
      fun _ => .inr ⟨_, _, rfl, List.mem_singleton_self _, rfl, .inr rfl⟩⟩

theorem lockRespected_receiveByte (b : Byte) (s : State) : LockRespected s (receiveByte b s) := by
  rcases receiveByte_cases b s with ⟨_, e⟩ | ⟨_, _, e⟩ <;> rw [e]
  · exact .of_same List.prefix_rfl rfl rfl rfl
  · have hbuffered : LockRespected s { s with fcb := { s.fcb with rxbuf := s.fcb.rxbuf ++ [b] } } :=
      .of_same List.prefix_rfl rfl rfl rfl
    exact (hbuffered.trans (lockRespected_deframe _)).settle

theorem lockRespected_popByte (s : State) : LockRespected s (popByte s) := by
  rcases popByte_cases s with ⟨_, e⟩ | ⟨b, rest, _, e⟩ <;> rw [e]
  · exact .of_same List.prefix_rfl rfl rfl rfl
  · exact .settle (.of_same List.prefix_rfl rfl rfl rfl)

theorem lockRespected_sendRequest (bs : List Byte) (s : State) :
    LockRespected s (sendRequest bs s) := by
  rcases sendRequest_cases bs s with ⟨r, e⟩ | ⟨d, _, _, _, e⟩ <;> rw [e]
  · exact .of_same (List.prefix_append _ _) rfl rfl rfl
  · exact .settle (.of_same List.prefix_rfl rfl rfl rfl)

theorem lockRespected_csrRead (n : Byte) (s : State) : LockRespected s (csrRead n s) := by
  unfold csrRead
  split <;> exact .of_same List.prefix_rfl rfl rfl rfl

theorem lockRespected_linkUp (s : State) : LockRespected s (linkUp s) := by
  unfold linkUp
  split_ifs <;> exact .of_same List.prefix_rfl rfl rfl rfl

theorem lockRespected_enable (s : State) : LockRespected s (enable s) := by
  unfold enable
  dsimp only
  split <;> exact .of_same List.prefix_rfl rfl rfl rfl

theorem dropLink_cntTx (s : State) : (dropLink s).fcb.cnt.tx = s.fcb.cnt.tx := by
  unfold dropLink
  split <;> rfl

/-- After LINK_DOWN nothing can be issued, for the link is down or the lock is held as before (R227). -/
theorem issueEnabled_linkDown {s : State} (hw : s.fcb.cst = .wait) :
    issueEnabled (linkDown s) = false := by
  unfold linkDown
  split
  · exact issueEnabled_of_wait hw
  · exact issueEnabled_of_unlinked (dropLink_link s)

theorem linkDown_cntTx (s : State) : (linkDown s).fcb.cnt.tx = s.fcb.cnt.tx := by
  unfold linkDown
  split
  · rfl
  · exact dropLink_cntTx s

/-- A disable issues nothing, for the link is down after it (R225). -/
theorem settle_disable_cntTx (s : State) : (settle (disable s)).fcb.cnt.tx = s.fcb.cnt.tx := by
  have hoff : issueEnabled (disable s) = false := issueEnabled_of_unlinked (dropLink_link s)
  rw [settle_of_not_enabled hoff]
  exact dropLink_cntTx s

theorem settle_csrWrite_lock (n : Byte) (v : Word) (s : State) :
    LockRespected s (settle (csrWrite n v s))
    ∨ (settle (csrWrite n v s)).fcb.cnt.tx = s.fcb.cnt.tx := by
  rcases csrWrite_cases n v s with ⟨_, e⟩ | ⟨_, _, e⟩ | ⟨_, _, _, e⟩ | ⟨_, _, _, e⟩ | ⟨_, _, _, e⟩
    <;> rw [e]
  · exact .inl (.settle (.of_same List.prefix_rfl rfl rfl rfl))
  · exact .inl (.settle (.of_same List.prefix_rfl rfl rfl rfl))
  · exact .inl (.settle (.of_same List.prefix_rfl rfl rfl rfl))
  · exact .inl (lockRespected_enable s).settle
  · exact .inr (settle_disable_cntTx s)

/-- While the lock is held, every operation but RESET leaves it or releases it with a record, or it
issues nothing (R74, R191). -/
theorem exec_lock {s t : State} {i : Instr} (h : exec i s = .next t) (hreset : i ≠ .reset)
    (hw : s.fcb.cst = .wait) : LockRespected s t ∨ t.fcb.cnt.tx = s.fcb.cnt.tx := by
  cases i with cases h
  | nop | ctlReserved _ _ _ =>
    exact .inl (.settle (.of_same List.prefix_rfl rfl rfl rfl))
  | csrRead n => exact .inl (lockRespected_csrRead n s).settle
  | csrWrite n v => exact settle_csrWrite_lock n v s
  | linkUp => exact .inl (lockRespected_linkUp s).settle
  | linkDown =>
    rw [settle_of_not_enabled (issueEnabled_linkDown hw)]
    exact .inr (linkDown_cntTx s)
  | send bs =>
    split
    · exact .inl (lockRespected_sendRequest bs s)
    · exact .inr rfl
  | cplOk | cplTimeout | cplConnectionLost | cplNotConnected | cplNotConfigured | cplBadRequest
    | cplUnsolicited => exact .inr (by rw [(takeRecord_keeps _ s).2])
  | frame dir ty seq body csum =>
    exact .inl (wireBytes_induction LockRespected
      (fun _ => .of_same List.prefix_rfl rfl rfl rfl) (fun _ _ _ => .trans)
      lockRespected_receiveByte lockRespected_popByte dir _ s)
  | rxByte b => exact .inl (lockRespected_receiveByte b s)
  | txPop => exact .inl (lockRespected_popByte s)
  | tick => exact .inl (lockRespected_tickTimer s).settle
  | reset => exact absurd rfl hreset

/-- Settles O54: an exchange that still stands excludes that CNT_TX changed. -/
theorem noIssueWhileTheLockIsHeld : Obligations.NoIssueWhileTheLockIsHeld := by
  intro i s t hreset h hw hissued
  rcases exec_lock h hreset hw with hlock | hsame
  · rcases hlock.exchange hw with hstands | hended
    · exact absurd hstands.cntTx hissued
    · exact hended
  · exact absurd hsame hissued

end Sys2Proof.Machine
end

section
/-! The configuration does not change while the block is enabled: O55 (`spec/20_memory.md` R72,
`spec/43_control.md` R228). -/

namespace Sys2Proof.Machine

theorem settle_conf (s : State) : (settle s).fcb.conf = s.fcb.conf := by
  obtain ⟨_, _, _, hconf, _⟩ := settle_frame s
  exact hconf

theorem tickTimer_conf (s : State) : (tickTimer s).fcb.conf = s.fcb.conf := by
  rcases tickTimer_cases s with ⟨_, e⟩ | ⟨_, _, e⟩ | ⟨_, _, e⟩ <;> rw [e]
  rfl

theorem receiveByte_conf (b : Byte) (s : State) : (receiveByte b s).fcb.conf = s.fcb.conf := by
  rcases receiveByte_cases b s with ⟨_, e⟩ | ⟨_, _, e⟩ <;> rw [e]
  · rfl
  · rw [settle_conf, (deframe_keeps _).conf]

theorem popByte_conf (s : State) : (popByte s).fcb.conf = s.fcb.conf := by
  rcases popByte_cases s with ⟨_, e⟩ | ⟨b, rest, _, e⟩ <;> rw [e]
  exact settle_conf _

theorem wireBytes_conf (dir : Dir) (bs : List Byte) (s : State) :
    (wireBytes dir bs s).fcb.conf = s.fcb.conf :=
  wireBytes_induction (fun s t => t.fcb.conf = s.fcb.conf) (fun _ => rfl)
    (fun _ _ _ h k => k.trans h) receiveByte_conf popByte_conf dir bs s

theorem sendRequest_conf (bs : List Byte) (s : State) :
    (sendRequest bs s).fcb.conf = s.fcb.conf := by
  rcases sendRequest_cases bs s with ⟨r, e⟩ | ⟨d, _, _, _, e⟩ <;> rw [e]
  · rfl
  · exact settle_conf _

theorem csrRead_conf (n : Byte) (s : State) : (csrRead n s).fcb.conf = s.fcb.conf := by
  unfold csrRead
  split <;> rfl

theorem linkUp_conf (s : State) : (linkUp s).fcb.conf = s.fcb.conf := by
  unfold linkUp
  split_ifs <;> rfl

theorem dropLink_conf (s : State) : (dropLink s).fcb.conf = s.fcb.conf := by
  unfold dropLink
  split <;> rfl

theorem linkDown_conf (s : State) : (linkDown s).fcb.conf = s.fcb.conf := by
  unfold linkDown
  split
  · rfl
  · exact dropLink_conf s

/-- While `EN = 1` the lock table lets no CSR_WRITE reach the configuration; a disable, which it does
let through, leaves it as it is (R225, R228). -/
theorem csrWrite_conf_of_enabled {s : State} (he : s.fcb.en = true) (n : Byte) (v : Word) :
    (csrWrite n v s).fcb.conf = s.fcb.conf := by
  rcases csrWrite_cases n v s
    with ⟨_, e⟩ | ⟨_, _, e⟩ | ⟨_, _, hoff, _⟩ | ⟨_, _, hoff, _⟩ | ⟨_, _, _, e⟩
  · rw [e]; rfl
  · rw [e]; rfl
  · exact absurd (he.symm.trans hoff) nofun
  · exact absurd (he.symm.trans hoff) nofun
  · rw [e]; exact dropLink_conf s

/-- Settles O55: while `EN = 1` only RESET changes the configuration, and after it `EN = 0`. -/
theorem configurationIsImmutableWhileEnabled :
    Obligations.ConfigurationIsImmutableWhileEnabled := by
  intro i s t h he he'
  cases i with cases h
  | nop | ctlReserved _ _ _ => exact settle_conf _
  | csrRead n => exact (settle_conf _).trans (csrRead_conf n s)
  | csrWrite n v => exact (settle_conf _).trans (csrWrite_conf_of_enabled he n v)
  | linkUp => exact (settle_conf _).trans (linkUp_conf s)
  | linkDown => exact (settle_conf _).trans (linkDown_conf s)
  | send bs =>
    split
    · exact sendRequest_conf bs s
    · rfl
  | cplOk | cplTimeout | cplConnectionLost | cplNotConnected | cplNotConfigured | cplBadRequest
    | cplUnsolicited => rw [(takeRecord_keeps _ s).2]
  | frame dir ty seq body csum => exact wireBytes_conf dir _ s
  | rxByte b => exact receiveByte_conf b s
  | txPop => exact popByte_conf s
  | tick => exact (settle_conf _).trans (tickTimer_conf s)
  | reset => exact absurd he' nofun

end Sys2Proof.Machine
end

section
/-! A frame, whole, to the panel, and a record, whole, to the host: O52 and O53
(`spec/20_memory.md` R67, R71, `spec/30_encoding.md` R101, `spec/70_reset_and_hazards.md` R289). -/

namespace Sys2Proof.Machine

/-! ### Bytes handed to the panel -/

/-- `t` is `s` with the bytes `bs` handed over and `rest` left in TXQ, ahead of what was issued
meanwhile; configuration, RXBUF and records are as they were (R67, R161). -/
structure HandedOver (bs rest : List Byte) (s t : State) : Prop where
  txTrace : t.port.txTrace = s.port.txTrace ++ bs
  txq : ∃ more, t.fcb.txq = rest ++ more
  conf : t.fcb.conf = s.fcb.conf
  rxbuf : t.fcb.rxbuf = s.fcb.rxbuf
  cplTrace : t.port.cplTrace = s.port.cplTrace

/-- One TX_POP hands over the head of TXQ (R161). -/
theorem popByte_handedOver {b : Byte} {rest : List Byte} {s : State} (hq : s.fcb.txq = b :: rest) :
    HandedOver [b] rest s (popByte s) := by
  rcases popByte_cases s with ⟨hempty, _⟩ | ⟨b', rest', hq', e⟩
  · simp [hempty] at hq
  · obtain ⟨rfl, rfl⟩ : b' = b ∧ rest' = rest := by simpa [hq'] using hq
    rw [e]
    rcases settle_cases _ with ⟨_, e'⟩ | ⟨d, q, _, _, _, _, _, e'⟩ <;> rw [e']
    · exact ⟨rfl, ⟨[], (List.append_nil _).symm⟩, rfl, rfl, rfl⟩
    · exact ⟨rfl, ⟨_, rfl⟩, rfl, rfl, rfl⟩

/-- As many TX_POPs as bytes stand at the head of TXQ hand these over, in order (R67). -/
theorem popBytes_handedOver {bs rest : List Byte} {s : State} (hq : s.fcb.txq = bs ++ rest) :
    HandedOver bs rest s (popBytes bs.length s) := by
  induction bs generalizing rest s with
  | nil => exact ⟨(List.append_nil _).symm, ⟨[], by simp [popBytes, hq]⟩, rfl, rfl, rfl⟩
  | cons b bs ih =>
    have hfirst := popByte_handedOver hq
    obtain ⟨more, hmore⟩ := hfirst.txq
    have hothers := ih (hmore.trans (List.append_assoc bs rest more))
    obtain ⟨later, hlater⟩ := hothers.txq
    rw [List.length_cons, popBytes_succ]
    exact {
      txTrace := by simp [hothers.txTrace, hfirst.txTrace]
      txq := ⟨more ++ later, by simp [hlater]⟩
      conf := hothers.conf.trans hfirst.conf
      rxbuf := hothers.rxbuf.trans hfirst.rxbuf
      cplTrace := hothers.cplTrace.trans hfirst.cplTrace }

/-- Settles O52. -/
theorem frameToThePanelIsHandedOver : Obligations.FrameToThePanelIsHandedOver := by
  intro ty seq body cs s
  rcases handBytes_cases (frameBytes ty seq body cs) s with ⟨hpre, e⟩ | ⟨hpre, e⟩
  · refine ⟨fun rest hq => ?_, fun hno => ?_⟩
    · obtain ⟨htrace, ⟨more, hmore⟩, hconf, hrx, hcpl⟩ := popBytes_handedOver hq
      exact ⟨_, more, congrArg Host.Outcome.next e, htrace, hmore, hconf, hrx, hcpl⟩
    · obtain ⟨rest, hq⟩ := hpre
      exact absurd hq.symm (hno rest)
  · exact ⟨fun rest hq => absurd ⟨rest, hq.symm⟩ hpre, fun _ => congrArg Host.Outcome.next e⟩

/-! ### A record on the CPL port -/

/-- The first record of the output buffer crosses: what is left of it is streamed (R71, R101). -/
theorem takeRecord_of_head {r : CplRecord} {rest : List CplRecord} {s : State}
    (ho : s.port.cplOut = r :: rest) :
    takeRecord r s = { s with port := { s.port with
      cplOut := rest, cplSent := 0
      cplStream := s.port.cplStream ++ (cplLanes r).drop s.port.cplSent } } := by
  simp [takeRecord, ho, dropFront, push]

/-- No other record crosses. -/
theorem takeRecord_of_not_head {r : CplRecord} {s : State} (ho : s.port.cplOut.head? ≠ some r) :
    takeRecord r s = s := by
  simp [takeRecord, ho]

theorem cplBytes_length (r : CplRecord) : (cplBytes r).length = 6 + r.payload.length := by
  simp [cplBytes, recordBytes]
  omega

/-- `cpl_last` marks the final byte and no other (R101). -/
theorem markLast_last (bs : List Byte) (b : Byte) :
    (markLast (bs ++ [b])).map (·.last) = List.replicate bs.length false ++ [true] := by
  induction bs with
  | nil => rfl
  | cons c cs ih =>
    have hne : cs ++ [b] ≠ [] := by simp
    obtain ⟨d, ds, hd⟩ := List.exists_cons_of_ne_nil hne
    rw [hd] at ih
    rw [List.cons_append, hd, List.length_cons, List.replicate_succ]
    simp [markLast, ih]

theorem cplLanes_last (r : CplRecord) :
    (cplLanes r).map (·.last) = List.replicate (5 + r.payload.length) false ++ [true] := by
  have hlen := cplBytes_length r
  have hne : cplBytes r ≠ [] := List.ne_nil_of_length_pos (by omega)
  have hinit : (cplBytes r).dropLast.length = 5 + r.payload.length := by
    rw [List.length_dropLast]
    omega
  rw [cplLanes, ← List.dropLast_append_getLast hne, markLast_last, hinit]

/-- A cycle of the CPL port with `lane` at hand offers it, and goes on to the next byte or, behind the
last, to the next record (R101, R289). -/
theorem streamByte_of_lane {r : CplRecord} {rest : List CplRecord} {lane : CplLane}
    {lanes : List CplLane} {s : State} (ho : s.port.cplOut = r :: rest)
    (hl : (cplLanes r).drop s.port.cplSent = lane :: lanes) (taken : Bool) :
    streamByte taken s = { s with port := { s.port with
      cplOut := if lane.last then rest else r :: rest
      cplSent := if lane.last then 0 else s.port.cplSent + 1
      cplStream := s.port.cplStream ++ (if taken then [lane] else []) } } := by
  have hlane : (cplLanes r)[s.port.cplSent]? = some lane := by
    rw [← List.head?_drop, hl, List.head?_cons]
  cases taken <;> simp [streamByte, cplData, ho, hlane, push]

/-- The bytes still to be offered, cycle by cycle: the induction along `markLast`. -/
theorem stream_markLast {r : CplRecord} {rest : List CplRecord} (b : Byte) (bs : List Byte)
    (s : State) (taken : List Bool) (ho : s.port.cplOut = r :: rest)
    (hl : (cplLanes r).drop s.port.cplSent = markLast (b :: bs))
    (hlen : taken.length = (b :: bs).length) :
    taken.foldl (fun t hostTakes => streamByte hostTakes t) s = { s with port := { s.port with
      cplOut := rest, cplSent := 0
      cplStream := s.port.cplStream ++ (((markLast (b :: bs)).zip taken).filter (·.2)).map (·.1) } } := by
  induction bs generalizing b s taken with
  | nil =>
    obtain ⟨hostTakes, rfl⟩ := List.length_eq_one_iff.mp hlen
    rw [List.foldl_cons, streamByte_of_lane ho hl]
    cases hostTakes <;> simp [markLast]
  | cons c cs ih =>
    obtain ⟨hostTakes, later, rfl⟩ := List.exists_cons_of_length_pos (l := taken) (by simp [hlen])
    have hnext : (cplLanes r).drop (s.port.cplSent + 1) = markLast (c :: cs) := by
      rw [← List.tail_drop, hl]
      rfl
    rw [List.foldl_cons, streamByte_of_lane ho hl]
    refine (ih c _ later rfl hnext (by simpa using hlen)).trans ?_
    cases hostTakes <;> simp [markLast]

/-- As many cycles as a record has bytes stream it whole, from its first byte (R101, R289). -/
theorem stream_record {r : CplRecord} {rest : List CplRecord} {s : State} {taken : List Bool}
    (ho : s.port.cplOut = r :: rest) (hsent : s.port.cplSent = 0)
    (hlen : taken.length = 6 + r.payload.length) :
    taken.foldl (fun t hostTakes => streamByte hostTakes t) s = { s with port := { s.port with
      cplOut := rest
      cplStream := s.port.cplStream ++ (((cplLanes r).zip taken).filter (·.2)).map (·.1) } } := by
  have hbytes := cplBytes_length r
  obtain ⟨b, bs, hbs⟩ := List.exists_cons_of_length_pos (l := cplBytes r) (by omega)
  have hlanes : cplLanes r = markLast (b :: bs) := congrArg markLast hbs
  rw [stream_markLast b bs s taken ho (by rw [hsent, List.drop_zero, hlanes])
    (by rw [hlen, ← hbytes, hbs]), hlanes, ← hsent]

/-- Settles O53. -/
theorem recordsCrossInOrder : Obligations.RecordsCrossInOrder := by
  refine ⟨fun tag ty seq payload s rest => ?_, fun r => ⟨markLast_data _, cplLanes_last r,
    fun s rest taken => stream_record⟩⟩
  have crossing (r : CplRecord) {i : Instr} (hi : exec i s = .next (takeRecord r s)) :
      (s.port.cplOut = r :: rest → exec i s = .next { s with port := { s.port with
          cplOut := rest, cplSent := 0
          cplStream := s.port.cplStream ++ (cplLanes r).drop s.port.cplSent } })
      ∧ (s.port.cplOut.head? ≠ some r → exec i s = .next s) :=
    ⟨fun ho => by rw [hi, takeRecord_of_head ho], fun ho => by rw [hi, takeRecord_of_not_head ho]⟩
  exact ⟨crossing _ rfl, crossing _ rfl, crossing _ rfl, crossing _ rfl, crossing _ rfl,
    crossing _ rfl, crossing _ rfl⟩

end Sys2Proof.Machine
end

section
/-! The byte that completes a valid frame, and O44 from what it does
(`spec/41_frame_codec.md` R155, R156, `spec/42_correlator.md` R186). -/

namespace Sys2Proof.Machine

/-! ### The received byte -/

/-- The byte after which PARSE no longer asks for more data ends the extent of its verdict, unless
that is BAD_LENGTH (R154). -/
theorem parse_extent_of_completed {ks : KeyStream} {p : Params} {c : ConnConfig} {buf : List Byte}
    {b : Byte} {dir : Dir} {n : Nat} (hbefore : parse ks p c buf dir = .needMoreData)
    (h : parse ks p c (buf ++ [b]) dir = .badChecksum n
      ∨ ∃ m, parse ks p c (buf ++ [b]) dir = .frame m n) : n = buf.length + 1 := by
  have hwithin := parse_total ks p c (buf ++ [b]) dir n h
  match buf with
  | [] | [_] | [_, _] | [_, _, _] | [_, _, _, _] => simp at hwithin; omega
  | l1 :: l0 :: ty :: s1 :: s0 :: rest =>
    rw [parse_cons] at hbefore
    simp only [List.cons_append, parse_cons] at h
    have hextent : n = 5 + (be16 l1 l0).toNat + csumW c.csumAlg := by
      split_ifs at h <;> simp at h <;> exact h.symm
    split_ifs at hbefore with _ hshort
    simp at hwithin
    simp
    omega

/-- DEFRAME that empties RXBUF in its first turn is that turn (R156). -/
theorem deframe_of_only_turn {s t : State} (h : DeframeTurn s t) (hempty : t.fcb.rxbuf = []) :
    deframe s = t := by
  obtain ⟨k, hk⟩ := Nat.exists_eq_add_one_of_ne_zero (Nat.ne_zero_of_lt (deframeTurn_shrinks h))
  rw [deframe, hk, deframeLoop_turn h, deframeLoop_stop (rxVerdict_of_empty hempty)]

/-- `s` with the frame in RXBUF taken and counted, not yet delivered (R156). -/
def frameTaken (s : State) : State :=
  withFcb s { s.fcb with rxbuf := [], cnt := { s.fcb.cnt with rxOk := s.fcb.cnt.rxOk + 1#32 } }

/-- The byte that completes a valid frame empties RXBUF, counts the frame and delivers it (R155,
R156). -/
theorem receiveByte_of_frame {b : Byte} {s : State} {m : Message} {n : Nat} (h : BlockInv s)
    (he : s.fcb.en = true) (hl : s.fcb.link = true)
    (hparse : parse Config.ks s.params s.fcb.conf (s.fcb.rxbuf ++ [b]) .fromPanel = .frame m n) :
    receiveByte b s = settle (deliver m (frameTaken s)) := by
  rcases receiveByte_cases b s with ⟨hout, _⟩ | ⟨_, _, e⟩
  · simp [he, hl] at hout
  · have hn := parse_extent_of_completed h.incomplete (.inr ⟨m, hparse⟩)
    have htaken : countRxOk (dropRx n { s with fcb := { s.fcb with rxbuf := s.fcb.rxbuf ++ [b] } })
        = frameTaken s := by
      simp [countRxOk, dropRx, dropFront, frameTaken, withFcb, hn]
    have hturn : DeframeTurn { s with fcb := { s.fcb with rxbuf := s.fcb.rxbuf ++ [b] } }
        (deliver m (frameTaken s)) := .inr (.inr ⟨m, n, hparse, by rw [htaken]⟩)
    have hempty : (deliver m (frameTaken s)).fcb.rxbuf = [] := by
      rcases deliver_cases m (frameTaken s) with ⟨_, e'⟩ | ⟨_, e'⟩ <;> rw [e'] <;> rfl
    rw [e, deframe_of_only_turn hturn hempty]

/-! ### The delivery -/

/-- A message answers the outstanding request if the lock is held, TXQ is empty, and what the mode
compares agrees (R69, R185, R186). -/
theorem answers_iff (s : State) (m : Message) :
    answers s m = true ↔ s.fcb.cst = .wait ∧ s.fcb.txq = []
      ∧ (s.fcb.conf.matchMode.getLsbD 0 = true → m.ty = s.fcb.out.expTy)
      ∧ (s.fcb.conf.matchMode.getLsbD 1 = true → m.seq = s.fcb.out.seq) := by
  simp only [answers, matchesOut, Bool.and_eq_true, Bool.or_eq_true, Bool.not_eq_true', beq_iff_eq,
    List.isEmpty_iff, and_assoc, ← Bool.not_eq_true, imp_iff_not_or]

/-- DELIVER of the answer releases the lock with one OK record (R186). -/
theorem deliver_of_answers {s : State} {m : Message} (h : answers s m = true) :
    deliver m s = withRecords (withFcb s { s.fcb with
        cst := .idle, timer := 0#16, consecTo := 0#8 })
      [{ status := .ok, tag := s.fcb.out.tag, ty := m.ty, seq := m.seq, payload := m.payload }] := by
  rcases deliver_cases m s with ⟨_, e⟩ | ⟨hno, _⟩
  · exact e
  · simp [h] at hno

/-- DELIVER of any other message reports it and leaves the exchange alone (R186). -/
theorem deliver_of_not_answers {s : State} {m : Message} (h : answers s m = false) :
    deliver m s = withRecords (withFcb s { s.fcb with
        cnt := { s.fcb.cnt with unsol := s.fcb.cnt.unsol + 1#32 } })
      [{ status := .unsolicited, tag := 15#4, ty := m.ty, seq := m.seq, payload := m.payload }] := by
  rcases deliver_cases m s with ⟨hyes, _⟩ | ⟨_, e⟩
  · simp [h] at hyes
  · exact e

/-- `s` with the frame in RXBUF taken, counted and delivered as the answer `m`, nothing being issued
behind it (R156, R186). -/
def exchangeAnswered (m : Message) (s : State) : State :=
  withRecords (withFcb s { s.fcb with
      rxbuf := [], cst := .idle, timer := 0#16, consecTo := 0#8
      cnt := { s.fcb.cnt with rxOk := s.fcb.cnt.rxOk + 1#32 } })
    [{ status := .ok, tag := s.fcb.out.tag, ty := m.ty, seq := m.seq, payload := m.payload }]

/-- With nothing queued, the byte that completes the answer ends the exchange and does no more. -/
theorem receiveByte_of_answer {b : Byte} {s : State} {m : Message} {n : Nat} (h : BlockInv s)
    (he : s.fcb.en = true) (hl : s.fcb.link = true)
    (hparse : parse Config.ks s.params s.fcb.conf (s.fcb.rxbuf ++ [b]) .fromPanel = .frame m n)
    (hm : answers s m = true) (hq : s.fcb.reqq = []) :
    receiveByte b s = exchangeAnswered m s := by
  rw [receiveByte_of_frame h he hl hparse, deliver_of_answers (s := frameTaken s) hm]
  exact settle_of_not_enabled (issueEnabled_of_empty hq)

/-- Settles O44: whichever of the four reasons holds, the message does not answer. -/
theorem otherValidFrameIsUnsolicited : Obligations.OtherValidFrameIsUnsolicited := by
  intro b s m n h he hl hparse hother
  have hno : answers s m = false := by
    rw [Bool.eq_false_iff, Ne, answers_iff]
    rintro ⟨hw, htxq, hty, hseq⟩
    rcases hother with hidle | hunsent | ⟨hmode, hne⟩ | ⟨hmode, hne⟩
    · simp [hw] at hidle
    · exact hunsent htxq
    · exact hne (hty hmode)
    · exact hne (hseq hmode)
  have hreceived := receiveByte_of_frame h he hl hparse
  rw [deliver_of_not_answers (s := frameTaken s) hno] at hreceived
  exact congrArg Host.Outcome.next (hreceived.trans (settle_of_not_enabled h.settled))

end Sys2Proof.Machine
end

section
/-! The REQ port and the clock cycle: O59, O60 and O20 (`spec/20_memory.md` R77,
`spec/42_correlator.md` R194). -/

namespace Sys2Proof.Machine

/-! ### The operations and the levels of one cycle -/

/-- The place of a stimulus in the order of R77, the byte the CPL port offers before all of them. -/
def cyclePlace : PortEvent → Nat
  | .rst _ => 1
  | .ctl _ _ => 2
  | .rx _ => 3
  | .tick _ => 4
  | .req _ | .reqSample => 5
  | .txReady _ => 6
  | .cpl _ | .cplByte _ | .wire _ _ => 0

theorem optional_places_sublist {α : Type} (o : Option α) (f : α → PortEvent) {k : Nat}
    (hf : ∀ a, cyclePlace (f a) = k) : ((o.map f).toList.map cyclePlace).Sublist [k] := by
  cases o <;> simp [hf]

theorem strobe_places_sublist (b : Bool) (e : PortEvent) :
    ((if b then [e] else []).map cyclePlace).Sublist [cyclePlace e] := by
  cases b <;> simp

/-- A cycle without reset has at most one stimulus for each place, in the order of R77. -/
theorem cycleEvents_places_sublist {c : CycleInputs} (h : c.rst = false) :
    ((cycleEvents c).map cyclePlace).Sublist [0, 2, 3, 4, 5, 6] := by
  have hctl := optional_places_sublist c.ctl (fun w => .ctl w.1 w.2) fun _ => rfl
  have hrx := optional_places_sublist c.rx (fun b => .rx (1#1 ++ b)) fun _ => rfl
  have htick := strobe_places_sublist c.tick (.tick 1#1)
  have htx := strobe_places_sublist c.txReady (.txReady 1#1)
  have hordered := ((((hctl.cons_cons 0).append hrx).append htick).append (.refl [5])).append htx
  cases hreq : c.req <;> simpa [cycleEvents, h, hreq, cyclePlace] using hordered

theorem cycleEvents_ordered {c : CycleInputs} (h : c.rst = false) :
    (cycleEvents c).Pairwise (fun a b => cyclePlace a < cyclePlace b) :=
  List.pairwise_map.mp (List.Pairwise.sublist (cycleEvents_places_sublist h) (by decide))

/-- A cycle without reset offers a byte on the CPL port, samples the REQ port, and has an operation for
every other input that is present (R77). -/
theorem mem_cycleEvents_iff {c : CycleInputs} (h : c.rst = false) (e : PortEvent) :
    e ∈ cycleEvents c ↔
      e = .cplByte c.cplTaken
      ∨ (∃ cmd v, c.ctl = some (cmd, v) ∧ e = .ctl cmd v)
      ∨ (∃ b, c.rx = some b ∧ e = .rx (1#1 ++ b))
      ∨ (c.tick = true ∧ e = .tick 1#1)
      ∨ (∃ item, c.req = some item ∧ e = .req item)
      ∨ (c.req = none ∧ e = .reqSample)
      ∨ (c.txReady = true ∧ e = .txReady 1#1) := by
  cases hreq : c.req <;> simp [cycleEvents, h, hreq, @eq_comm _ _ e]

theorem cycleEvents_of_rst {c : CycleInputs} (h : c.rst = true) : cycleEvents c = [.rst 1#1] := by
  simp [cycleEvents, h]

theorem reqReady_eq_false_iff (s : State) :
    reqReady s = false ↔ s.fcb.link = true ∧ s.fcb.reqq.length = s.params.qdepth := by
  simp [reqReady]

theorem txData_of_cons {s : State} {b : Byte} {rest : List Byte} (h : s.fcb.txq = b :: rest) :
    txData s = some b := by
  simp [txData, h]

/-- Settles O59. -/
theorem sameCycleOrder : Obligations.SameCycleOrder := by
  refine ⟨fun c h => ⟨cycleEvents_ordered h, mem_cycleEvents_iff h⟩, fun c => cycleEvents_of_rst,
    fun ctlValid s => ⟨rfl, rfl, ?_, ?_, rfl, rfl, fun b rest => txData_of_cons, ?_⟩⟩
  · simp [portLevels]
  · simpa [portLevels] using reqReady_eq_false_iff s
  · simp [portLevels]

/-! ### Back-pressure on the REQ port -/

theorem reqReady_of_unlinked {s : State} (hl : s.fcb.link = false) : reqReady s = true := by
  simp [reqReady, hl]

/-- Sampling the REQ port does nothing while nothing waits there or `req_ready` is low (R194). -/
theorem sampleReq_of_not_accepted {s : State}
    (h : s.port.reqWaiting = [] ∨ reqReady s = false) : sampleReq s = (none, s) := by
  rcases sampleReq_cases s with ⟨_, e⟩ | ⟨_, _, hw, hr, _⟩ | ⟨_, _, hw, hr, _⟩
  · exact e
  · simp [hw, hr] at h
  · simp [hw, hr] at h

/-- Bytes that do not end a descriptor go into the assembly buffer (R38(c), R100). -/
theorem sampleReq_of_part {s : State} {item : ReqItem} {held : List ReqItem}
    (hw : s.port.reqWaiting = item :: held) (hr : reqReady s = true) (hl : item.last = false) :
    sampleReq s = (none, { s with port := { s.port with
      reqWaiting := held, reqPart := s.port.reqPart ++ item.bytes } }) := by
  simp [sampleReq, hw, hr, hl, push]

theorem fetch_of_nil {s : State} (h : s.port.inbox = []) : fetch s = sampleReq s := by
  simp [fetch, h]

theorem step_of_fetch_none {s t : State} (hf : fetch s = (none, t)) : step s = .next t := by
  simp [step, hf]

/-- A step that samples the REQ port accepts the first bytes held there while `req_ready` is high, as
the SEND of the whole descriptor if they end it (R100, R194). -/
theorem step_of_sampleReq {s t : State} {item : ReqItem} {held : List ReqItem}
    (hf : fetch s = sampleReq t) (hw : t.port.reqWaiting = item :: held) (hr : reqReady t = true) :
    (item.last = true → step s = exec (.send (t.port.reqPart ++ item.bytes))
      { t with port := { t.port with reqWaiting := held, reqPart := [] } })
    ∧ (item.last = false → step s = .next { t with port := { t.port with
      reqWaiting := held, reqPart := t.port.reqPart ++ item.bytes } }) :=
  ⟨step_of_sampleReq_last hf hw hr,
    fun hl => step_of_fetch_none (hf.trans (sampleReq_of_part hw hr hl))⟩

/-- With nothing new on the REQ port, `fetch` samples what waits there. -/
theorem fetch_of_nothing_new {s : State} {rest : List PortEvent}
    (h : s.port.inbox = .reqSample :: rest ∨ (s.port.inbox = [] ∧ rest = [])) :
    fetch s = sampleReq { s with port := { s.port with inbox := rest } } := by
  rcases h with h | ⟨h, rfl⟩
  · exact fetch_of_reqSample h
  · rw [fetch_of_nil h, ← h]

/-! ### Running a cycle -/

/-- `s` with these stimuli in the inbox. -/
def withInbox (es : List PortEvent) (s : State) : State :=
  { s with port := { s.port with inbox := es } }

theorem withInbox_eq_self {es : List PortEvent} {s : State} (h : s.port.inbox = es) :
    withInbox es s = s := by
  rw [← h]
  rfl

theorem runCycle_eq (c : CycleInputs) {s : State} (h : s.port.inbox = []) :
    runCycle c s = Host.Core.run core (cycleEvents c).length (withInbox (cycleEvents c) s) := by
  have hcycle : withCycle c s = withInbox (cycleEvents c) s := by simp [withCycle, withInbox, h]
  exact congrArg (Host.Core.run core (cycleEvents c).length) hcycle

theorem run_succ {k : Nat} {s t : State} (h : step s = .next t) :
    Host.Core.run core (k + 1) s = Host.Core.run core k t := by
  have hcore : core.step s = .next t := h
  simp only [Host.Core.run, hcore]

/-- What waits in the inbox does not matter to the CPL port. -/
theorem streamByte_withInbox (taken : Bool) (es : List PortEvent) (s : State) :
    streamByte taken (withInbox es s) = withInbox es (streamByte taken s) := by
  have hdata : cplData (withInbox es s) = cplData s := rfl
  have hout : (withInbox es s).port.cplOut = s.port.cplOut := rfl
  unfold streamByte
  rw [hdata, hout]
  cases s.port.cplOut <;> cases cplData s <;> rfl

/-- A cycle of the CPL port, as the next stimulus. -/
theorem step_cplByte (taken : Bool) (es : List PortEvent) (s : State) :
    step (withInbox (.cplByte taken :: es) s) = .next (withInbox es (streamByte taken s)) := by
  have hinbox : (withInbox (.cplByte taken :: es) s).port.inbox = .cplByte taken :: es := rfl
  rw [← streamByte_withInbox]
  exact step_of_fetch_error (fetch_of_other_port hinbox nofun nofun) rfl

/-- Sampling the REQ port, as the next stimulus, with nothing waiting there. -/
theorem step_reqSample_idle {s : State} (h : s.port.reqWaiting = []) (es : List PortEvent) :
    step (withInbox (.reqSample :: es) s) = .next (withInbox es s) :=
  step_of_fetch_none ((fetch_of_reqSample rfl).trans (sampleReq_of_not_accepted (.inl h)))

/-- An operation of any port but REQ, as the next stimulus. -/
theorem step_operation {e : PortEvent} {i : Instr} (hreq : ∀ item, e ≠ .req item)
    (hd : decode e = .ok i) (es : List PortEvent) (s : State) :
    step (withInbox (e :: es) s) = exec i (withInbox es s) :=
  step_of_decode_ok (s := withInbox (e :: es) s) rfl hreq hd

/-- Sampling the REQ port, as the next stimulus, with the end of a descriptor waiting there. -/
theorem step_reqSample_last {s : State} {item : ReqItem} {held : List ReqItem}
    (hw : s.port.reqWaiting = item :: held) (hr : reqReady s = true) (hl : item.last = true)
    (es : List PortEvent) :
    step (withInbox (.reqSample :: es) s) = exec (.send (s.port.reqPart ++ item.bytes))
      { s with port := { s.port with inbox := es, reqWaiting := held, reqPart := [] } } :=
  step_of_sampleReq_last (t := withInbox es s)
    (fetch_of_reqSample (s := withInbox (.reqSample :: es) s) rfl) hw hr hl

/-! ### LINK_DOWN with a descriptor held on the REQ port -/

theorem exec_linkDown_of_linked {s : State} (he : s.fcb.en = true) (hl : s.fcb.link = true) :
    exec .linkDown s = .next (respond .ok 0#32 (failAll s)) := by
  have hdown : linkDown s = respond .ok 0#32 (failAll s) := by simp [linkDown, dropLink, he, hl]
  have hnone : issueEnabled (respond .ok 0#32 (failAll s)) = false := issueEnabled_of_unlinked rfl
  exact congrArg Host.Outcome.next ((congrArg settle hdown).trans (settle_of_not_enabled hnone))

/-- FAIL_ALL reports every pending request as lost (R190). -/
theorem lostRecords_status (f : Fcb) : ∀ r ∈ lostRecords f, r.status = .connectionLost := by
  unfold lostRecords
  cases f.cst <;> simp

/-- SEND of a good descriptor is answered NOT_CONNECTED while the link is down (R180). -/
theorem exec_send_of_unlinked {s : State} {bs : List Byte} {d : Descriptor}
    (hd : decodeDesc s.params bs = .good d) (he : s.fcb.en = true) (hl : s.fcb.link = false) :
    exec (.send bs) s = .next (emit
      { status := .notConnected, tag := d.tag, ty := d.ty, seq := 0#16, payload := [] } s) := by
  have hsent : sendRequest bs s = emit
      { status := .notConnected, tag := d.tag, ty := d.ty, seq := 0#16, payload := [] } s := by
    simp [sendRequest, hd, he, hl, refuseRequest]
  exact congrArg Host.Outcome.next ((if_pos (reqReady_of_unlinked hl)).trans hsent)

/-- LINK_DOWN answers every pending request; the descriptor held on the REQ port is accepted when the
port is next sampled, and is answered behind them (R190, R194). -/
theorem run_linkDown_reqSample {s : State} {bs : List Byte} {d : Descriptor} (v : Word)
    (he : s.fcb.en = true) (hl : s.fcb.link = true) (hpart : s.port.reqPart = [])
    (hheld : s.port.reqWaiting = [{ bytes := bs, last := true }])
    (hd : decodeDesc s.params bs = .good d) :
    ∃ t, Host.Core.run core 2 (withInbox [.ctl 0x4000#16 v, .reqSample] s) = .next t
      ∧ t.fcb.link = false ∧ t.port.reqWaiting = []
      ∧ t.port.cplTrace = s.port.cplTrace ++ lostRecords s.fcb ++
          [{ status := .notConnected, tag := d.tag, ty := d.ty, seq := 0#16, payload := [] }] := by
  let down := respond .ok 0#32 (failAll s)
  have hdown : step (withInbox [.ctl 0x4000#16 v, .reqSample] s)
      = .next (withInbox [.reqSample] down) :=
    (step_operation (e := .ctl 0x4000#16 v) nofun rfl _ s).trans (exec_linkDown_of_linked he hl)
  have hsampled := step_reqSample_last (s := down) hheld (reqReady_of_unlinked rfl) rfl []
  rw [show down.port.reqPart = [] from hpart, List.nil_append] at hsampled
  exact ⟨_, (run_succ hdown).trans (run_succ (hsampled.trans (exec_send_of_unlinked hd he rfl))),
    rfl, rfl, rfl⟩

/-- In a cycle with LINK_DOWN the link goes down before the REQ port is sampled (R77, R194). -/
theorem runCycle_linkDown {s : State} {bs : List Byte} {d : Descriptor} (v : Word) (taken : Bool)
    (he : s.fcb.en = true) (hl : s.fcb.link = true) (hinbox : s.port.inbox = [])
    (hpart : s.port.reqPart = [])
    (hheld : s.port.reqWaiting = [{ bytes := bs, last := true }])
    (hd : decodeDesc s.params bs = .good d) :
    ∃ t, runCycle { rst := false, ctl := some (0x4000#16, v), rx := none, tick := false
                    req := none, txReady := false, cplTaken := taken } s = .next t
      ∧ t.fcb.link = false ∧ t.port.reqWaiting = []
      ∧ t.port.cplTrace = s.port.cplTrace ++ lostRecords s.fcb ++
          [{ status := .notConnected, tag := d.tag, ty := d.ty, seq := 0#16, payload := [] }] := by
  obtain ⟨hparams, hfcb, _, hwaitKept, hpartKept, _, htrace, _⟩ := streamByte_keeps taken s
  rw [← hfcb] at he hl
  rw [← hparams] at hd
  rw [runCycle_eq _ hinbox, ← hfcb, ← htrace]
  obtain ⟨t, hrun, hrest⟩ := run_linkDown_reqSample v he hl (hpartKept.trans hpart)
    (hwaitKept.trans hheld) hd
  exact ⟨t, (run_succ (step_cplByte taken _ s)).trans hrun, hrest⟩

/-- Settles O20. -/
theorem waitingDescriptorsHoldUpNoOtherPort : Obligations.WaitingDescriptorsHoldUpNoOtherPort := by
  refine ⟨?_, ?_, ?_, ?_, ?_, ?_⟩
  · intro s item rest hr hi
    exact step_of_fetch_none ((fetch_of_req hi).trans (sampleReq_of_not_accepted (.inr hr)))
  · intro s item held rest hr hw hi
    exact step_of_sampleReq (fetch_of_nothing_new hi) hw hr
  · intro s item new held rest hr hw hi
    exact step_of_sampleReq (fetch_of_req hi) (by simp [hw]) hr
  · intro s held e rest i hreq hd hi
    exact step_of_decode_ok hi hreq hd
  · intro s hi hnone
    exact step_of_fetch_none ((fetch_of_nil hi).trans (sampleReq_of_not_accepted hnone))
  · intro s bs d v he hl hinbox hpart hheld hd taken
    obtain ⟨t, hrun, hlink, hwait, htrace⟩ := runCycle_linkDown v taken he hl hinbox hpart hheld hd
    exact ⟨t, hrun, hlink, hwait, lostRecords s.fcb, lostRecords_status s.fcb, htrace⟩

/-! ### A response and the last tick in one cycle -/

theorem decode_rx (b : Byte) : decode (.rx (1#1 ++ b)) = .ok (.rxByte b) := by
  have hvalid : (1#1 ++ b).getLsbD 8 = true := by
    rw [BitVec.getLsbD_append, if_neg (by decide)]
    rfl
  have hdata : (1#1 ++ b).extractLsb' 0 8 = b := BitVec.extractLsb'_append_eq_right
  simp only [decode, hvalid, hdata, if_true]

/-- A TICK finds nothing to do with the lock free and nothing queued (R187). -/
theorem exec_tick_idle {s : State} (hc : s.fcb.cst = .idle) (hq : s.fcb.reqq = []) :
    exec .tick s = .next s := by
  have htimer : tickTimer s = s := by simp [tickTimer, hc]
  exact congrArg Host.Outcome.next
    ((congrArg settle htimer).trans (settle_of_not_enabled (issueEnabled_of_empty hq)))

/-- The byte that completes the answer, the last tick and the sampling of the REQ port, one after the
other: the tick finds the lock free (R77). -/
theorem run_answer_tick_reqSample {b : Byte} {s : State} {m : Message} {n : Nat} (h : BlockInv s)
    (he : s.fcb.en = true) (hl : s.fcb.link = true) (hinbox : s.port.inbox = [])
    (hwait : s.port.reqWaiting = [])
    (hparse : parse Config.ks s.params s.fcb.conf (s.fcb.rxbuf ++ [b]) .fromPanel = .frame m n)
    (hm : answers s m = true) (hq : s.fcb.reqq = []) :
    Host.Core.run core 3 (withInbox [.rx (1#1 ++ b), .tick 1#1, .reqSample] s)
      = .next (exchangeAnswered m s) := by
  have hrx : step (withInbox [.rx (1#1 ++ b), .tick 1#1, .reqSample] s)
      = .next (withInbox [.tick 1#1, .reqSample] (exchangeAnswered m s)) :=
    (step_operation (e := .rx (1#1 ++ b)) nofun (decode_rx b) _ s).trans (congrArg Host.Outcome.next
      (receiveByte_of_answer (s := withInbox [.tick 1#1, .reqSample] s) (h.of_fcb_eq rfl rfl) he hl
        hparse hm hq))
  have htick : step (withInbox [.tick 1#1, .reqSample] (exchangeAnswered m s))
      = .next (withInbox [.reqSample] (exchangeAnswered m s)) :=
    (step_operation (e := .tick 1#1) nofun rfl _ _).trans (exec_tick_idle rfl hq)
  have hsampled : step (withInbox [.reqSample] (exchangeAnswered m s))
      = .next (withInbox [] (exchangeAnswered m s)) :=
    step_reqSample_idle (s := exchangeAnswered m s) hwait []
  rw [run_succ hrx, run_succ htick, run_succ hsampled]
  exact congrArg Host.Outcome.next (withInbox_eq_self (s := exchangeAnswered m s) hinbox)

/-- Settles O60: RX_BYTE comes first in the cycle and releases the lock, so TICK finds it free. -/
theorem responseWinsOverTimeoutInOneCycle : Obligations.ResponseWinsOverTimeoutInOneCycle := by
  intro b s m n taken h he hl hinbox hwait hparse hw _ htxq hq hty hseq
  obtain ⟨hparams, hfcb, hinboxKept, hwaitKept, _⟩ := streamByte_keeps taken s
  have hm : answers (streamByte taken s) m = true := by
    rw [answers_iff, hfcb]
    exact ⟨hw, htxq, hty, hseq⟩
  rw [← hfcb] at he hl hq hparse
  rw [← hparams] at hparse
  rw [runCycle_eq _ hinbox, ← hfcb]
  exact (run_succ (step_cplByte taken _ s)).trans
    (run_answer_tick_reqSample (h.of_fcb_eq hparams hfcb) he hl (hinboxKept.trans hinbox)
      (hwaitKept.trans hwait) hparse hm hq)

end Sys2Proof.Machine
end

section
/-! The layouts of CTL words, CPL records, wire frames and descriptors read back from their bytes:
O1 to O5 (`spec/30_encoding.md` R91, R98 to R103, R110). -/

namespace Sys2Proof.Machine

/-- A length that fits its 16-bit field is not cut (R91, R100, R101). -/
theorem half_toNat_of_fits {n : Nat} (h : n < 65536) : (BitVec.ofNat 16 n).toNat = n := by
  rw [BitVec.toNat_ofNat, Nat.mod_eq_of_lt h]

/-! ### CTL words -/

theorem ctlWord_op (op rsv : BitVec 4) (n : Byte) : (ctlWord op rsv n).extractLsb' 12 4 = op := by
  rw [ctlWord, BitVec.extractLsb'_append_eq_of_le (by decide)]
  exact BitVec.extractLsb'_append_eq_left

theorem ctlWord_rsv (op rsv : BitVec 4) (n : Byte) : (ctlWord op rsv n).extractLsb' 8 4 = rsv := by
  rw [ctlWord, BitVec.extractLsb'_append_eq_of_le (by decide)]
  exact BitVec.extractLsb'_append_eq_right

theorem ctlWord_csrn (op rsv : BitVec 4) (n : Byte) : (ctlWord op rsv n).extractLsb' 0 8 = n :=
  BitVec.extractLsb'_append_eq_right

/-- The three fields make up the whole word (R98). -/
theorem ctlWord_of_fields (cmd : Half) :
    ctlWord (cmd.extractLsb' 12 4) (cmd.extractLsb' 8 4) (cmd.extractLsb' 0 8) = cmd := by
  rw [ctlWord, BitVec.extractLsb'_append_extractLsb'_eq_extractLsb' (by rfl),
    BitVec.extractLsb'_append_extractLsb'_eq_extractLsb' (by rfl)]
  exact BitVec.extractLsb'_eq_self

/-- Two CTL words are the same exactly if their fields are. -/
theorem ctlWord_inj {op op' rsv rsv' : BitVec 4} {n n' : Byte} :
    ctlWord op rsv n = ctlWord op' rsv' n' ↔ op = op' ∧ rsv = rsv' ∧ n = n' := by
  refine ⟨fun h => ⟨?_, ?_, ?_⟩, ?_⟩
  · rw [← ctlWord_op op rsv n, h, ctlWord_op]
  · rw [← ctlWord_rsv op rsv n, h, ctlWord_rsv]
  · rw [← ctlWord_csrn op rsv n, h, ctlWord_csrn]
  · rintro ⟨rfl, rfl, rfl⟩
    rfl

/-- The mask 0xFF00 of R98 keeps OP and bits 11:8 and clears CSRN. -/
theorem ctlWord_and_mask (op rsv : BitVec 4) (n : Byte) :
    ctlWord op rsv n &&& 0xFF00#16 = ctlWord op rsv 0#8 := by
  calc ctlWord op rsv n &&& 0xFF00#16
      = (op &&& BitVec.allOnes 4) ++ (rsv &&& BitVec.allOnes 4) ++ (n &&& 0#8) := by
        rw [← BitVec.and_append, ← BitVec.and_append]
        rfl
    _ = ctlWord op rsv 0#8 := by simp only [ctlWord, BitVec.and_allOnes, BitVec.and_zero]

/-- The operation of a CTL word, by its fields (R98). -/
theorem decodeCtl_ctlWord (op rsv : BitVec 4) (n : Byte) (v : Word) :
    decodeCtl (ctlWord op rsv n) v =
      if rsv ≠ 0#4 then .ctlReserved op rsv n
      else if op = 0#4 then (if n = 0#8 then .nop else .ctlReserved op rsv n)
      else if op = 1#4 then .csrRead n
      else if op = 2#4 then .csrWrite n v
      else if op = 3#4 then (if n = 0#8 then .linkUp else .ctlReserved op rsv n)
      else if op = 4#4 then (if n = 0#8 then .linkDown else .ctlReserved op rsv n)
      else .ctlReserved op rsv n := by
  simp only [decodeCtl, ctlWord_op, ctlWord_rsv, ctlWord_csrn]

theorem decodeCtl_of_reserved {op rsv : BitVec 4} {n : Byte} (h : ctlWordReserved op rsv n = true)
    (v : Word) : decodeCtl (ctlWord op rsv n) v = .ctlReserved op rsv n := by
  rw [decodeCtl_ctlWord]
  split_ifs <;> simp_all [ctlWordReserved]

/-- Settles O2: a match of R98 is an equation of the fields its mask keeps. -/
theorem everyCtlWordDecodesByMatchAndMask : Obligations.EveryCtlWordDecodesByMatchAndMask := by
  intro cmd v
  generalize hop : cmd.extractLsb' 12 4 = op
  generalize hrsv : cmd.extractLsb' 8 4 = rsv
  generalize hn : cmd.extractLsb' 0 8 = n
  obtain rfl : ctlWord op rsv n = cmd := by rw [← hop, ← hrsv, ← hn, ctlWord_of_fields]
  have hnop : 0x0000#16 = ctlWord 0#4 0#4 0#8 := rfl
  have hread : 0x1000#16 = ctlWord 1#4 0#4 0#8 := rfl
  have hwrite : 0x2000#16 = ctlWord 2#4 0#4 0#8 := rfl
  have hup : 0x3000#16 = ctlWord 3#4 0#4 0#8 := rfl
  have hdown : 0x4000#16 = ctlWord 4#4 0#4 0#8 := rfl
  rw [ctlWord_and_mask, hnop, hread, hwrite, hup, hdown]
  simp only [ctlWord_inj, and_true, decode, decodeCtl_ctlWord]
  by_cases hzero : rsv = 0#4
  · simp only [hzero, ne_eq, not_true_eq_false, if_false, true_and, and_true]
    split_ifs <;> simp_all
  · simp [hzero]

/-! ### CPL records -/

/-- A record whose PLEN fits decodes to the row its status code selects (R101). -/
theorem decodeRecord_recordBytes (status tag : BitVec 4) (ty : Byte) (seq : Half)
    {payload : List Byte} (h : payload.length < 65536) :
    decodeRecord (recordBytes status tag ty seq payload)
      = decodeRecordFields status tag ty seq payload := by
  have hstatus : (status ++ tag).extractLsb' 4 4 = status := BitVec.extractLsb'_append_eq_left
  have htag : (status ++ tag).extractLsb' 0 4 = tag := BitVec.extractLsb'_append_eq_right
  simp only [recordBytes, List.cons_append, List.nil_append, decodeRecord, hstatus, htag,
    be16_hi8_lo8, half_toNat_of_fits h, if_true]

/-- Settles O4: the code of each status selects its own row. -/
theorem recordBytesDecodeToTheirRow : Obligations.RecordBytesDecodeToTheirRow := by
  rintro ⟨status, tag, ty, seq, payload⟩ hlen htag
  refine (decodeRecord_recordBytes (cplCode status) tag ty seq hlen).trans ?_
  cases status with
  | unsolicited =>
    obtain rfl : tag = 15#4 := htag rfl
    rfl
  | _ => rfl

/-! ### Wire frames -/

/-- A frame whose LEN fits decodes to its parts: LEN tells where the payload ends and the checksum
begins (R91, R97). -/
theorem decodeFrame_frameBytes (dir : Dir) (ty : Byte) (seq : Half) {body cs : List Byte}
    (hbody : body.length < 65536) (hcs : cs.length = 1 ∨ cs.length = 2) :
    decodeFrame dir (frameBytes ty seq body cs) = .ok (.frame dir ty seq body cs) := by
  have hlen : (body ++ cs).length = body.length + 1 ∨ (body ++ cs).length = body.length + 2 := by
    rw [List.length_append]
    omega
  simp only [frameBytes, frameHeader, List.cons_append, List.nil_append, decodeFrame,
    be16_hi8_lo8, half_toNat_of_fits hbody, if_pos hlen, List.take_left, List.drop_left]

/-! ### Every operation -/

/-- Settles O1: each format's layout is read back from its bytes. -/
theorem decodeEncodeRoundTrip : Obligations.DecodeEncodeRoundTrip := by
  intro i hwf
  cases i with
  | nop | linkUp | linkDown | send | txPop | tick | reset => rfl
  | csrRead n => exact congrArg Except.ok (decodeCtl_ctlWord 1#4 0#4 n 0#32)
  | csrWrite n v => exact congrArg Except.ok (decodeCtl_ctlWord 2#4 0#4 n v)
  | ctlReserved op rsv n => exact congrArg Except.ok (decodeCtl_of_reserved hwf 0#32)
  | cplOk tag ty seq payload =>
    obtain ⟨_, hlen⟩ := Bool.and_eq_true_iff.mp hwf
    exact decodeRecord_recordBytes 0x0#4 tag ty seq (of_decide_eq_true hlen)
  | cplUnsolicited ty seq payload =>
    exact decodeRecord_recordBytes 0x8#4 15#4 ty seq (of_decide_eq_true hwf)
  | cplTimeout tag ty seq payload | cplConnectionLost tag ty seq payload
    | cplNotConnected tag ty seq payload | cplNotConfigured tag ty seq payload
    | cplBadRequest tag ty seq payload =>
    obtain ⟨_, hempty⟩ := Bool.and_eq_true_iff.mp hwf
    obtain rfl := List.isEmpty_iff.mp hempty
    exact decodeRecord_recordBytes _ tag ty seq (payload := []) (by decide)
  | frame dir ty seq body cs =>
    obtain ⟨hbody, hcs⟩ := Bool.and_eq_true_iff.mp hwf
    exact decodeFrame_frameBytes dir ty seq (of_decide_eq_true hbody) (by simpa using hcs)
  | rxByte b => exact decode_rx b

/-- Settles O3: each word is evaluated. -/
theorem tableWordsDecode : Obligations.TableWordsDecode := by
  unfold Obligations.TableWordsDecode
  decide

/-! ### Descriptors -/

/-- Settles O5: none of the six conditions of R181 is met by a legal descriptor's bytes. -/
theorem descriptorBytesRoundTrip : Obligations.DescriptorBytesRoundTrip := by
  rintro p ⟨tag, ty, expTy, timeout, payload⟩ hp ⟨htag, hmax⟩
  have hplen : payload.length < 65536 := Nat.lt_succ_of_le (hmax.trans hp)
  have hrsv : (0#4 ++ tag).extractLsb' 4 4 = 0#4 := BitVec.extractLsb'_append_eq_left
  have htag' : (0#4 ++ tag).extractLsb' 0 4 = tag := BitVec.extractLsb'_append_eq_right
  simp only [descBytes, List.cons_append, List.nil_append, decodeDesc, hrsv, htag', be16_hi8_lo8,
    half_toNat_of_fits hplen, if_neg htag, if_neg hmax.not_gt, ne_eq, not_true_eq_false, if_false]

end Sys2Proof.Machine
end

section
/-! The layout of an encoded frame, the byte handed to the panel and the frame received outside a
connection: O11, O45 and O50 (`spec/41_frame_codec.md` R153, R155, R161). -/

namespace Sys2Proof.Machine

/-! ### The layout of a frame -/

/-- A 16-bit field's two bytes, high byte first, as a number (R61). -/
theorem hi8_mul_add_lo8 (v : Half) : (hi8 v).toNat * 256 + (lo8 v).toNat = v.toNat := by
  simp only [hi8, lo8, BitVec.extractLsb'_toNat, Nat.shiftRight_eq_div_pow]
  omega

/-- ENCODE builds the header, the payload on the wire, and the checksum over header and plaintext
(R153). -/
theorem encodeFrame_eq (ks : KeyStream) (c : ConnConfig) (m : Message) (dir : Dir) :
    encodeFrame ks c m dir
      = frameHeader m.payload.length m.ty m.seq ++ (cryptPayload ks c dir m.seq m.payload
        ++ csum c.csumAlg (frameHeader m.payload.length m.ty m.seq ++ m.payload)) :=
  List.append_assoc _ _ _

theorem take_encodeFrame (ks : KeyStream) (c : ConnConfig) (m : Message) (dir : Dir) :
    (encodeFrame ks c m dir).take 5 = frameHeader m.payload.length m.ty m.seq := by
  rw [encodeFrame_eq]
  exact List.take_left' rfl

theorem drop_encodeFrame (ks : KeyStream) (c : ConnConfig) (m : Message) (dir : Dir) :
    (encodeFrame ks c m dir).drop 5 = cryptPayload ks c dir m.seq m.payload
      ++ csum c.csumAlg (frameHeader m.payload.length m.ty m.seq ++ m.payload) := by
  rw [encodeFrame_eq]
  exact List.drop_left' rfl

/-- The payload bytes of an encoded frame are the payload as it stands on the wire (R91, R135). -/
theorem encodeFrame_body (ks : KeyStream) (c : ConnConfig) (m : Message) (dir : Dir) :
    ((encodeFrame ks c m dir).drop 5).take m.payload.length
      = cryptPayload ks c dir m.seq m.payload := by
  rw [drop_encodeFrame]
  exact List.take_left' (cryptPayload_length ks c dir m.seq m.payload)

/-- What follows the payload of an encoded frame is its checksum (R91, R153). -/
theorem encodeFrame_csum (ks : KeyStream) (c : ConnConfig) (m : Message) (dir : Dir) :
    (encodeFrame ks c m dir).drop (5 + m.payload.length)
      = csum c.csumAlg (frameHeader m.payload.length m.ty m.seq ++ m.payload) := by
  rw [← List.drop_drop, drop_encodeFrame]
  exact List.drop_left' (cryptPayload_length ks c dir m.seq m.payload)

/-- Settles O11: the header's five bytes, then `encodeFrame_body`, then `encodeFrame_csum`. -/
theorem encodedFrameLayout : Obligations.EncodedFrameLayout := by
  intro ks c m dir hlen f n
  have hf : f.length = 5 + n + csumW c.csumAlg := encodeFrame_length ks c m dir
  have hheader : f.take 5 = frameHeader n m.ty m.seq := take_encodeFrame ks c m dir
  have hbyte (i : Nat) (hi : i < 5) : f.getD i 0#8 = (frameHeader n m.ty m.seq).getD i 0#8 := by
    rw [← hheader, List.getD_eq_getElem?_getD, List.getD_eq_getElem?_getD,
      List.getElem?_take_of_lt hi]
  refine ⟨fun halg => ?_, fun halg => ?_, ?_, hbyte 2 (by decide), ?_, fun hkey => ?_,
    fun hkey => ?_, ?_⟩
  · rw [hf, halg]
    exact Nat.add_right_comm 5 n 1
  · rw [hf, halg]
    exact Nat.add_right_comm 5 n 2
  · rw [hbyte 0 (by decide), hbyte 1 (by decide)]
    exact (hi8_mul_add_lo8 (BitVec.ofNat 16 n)).trans
      (half_toNat_of_fits (Nat.lt_succ_of_le hlen))
  · rw [hbyte 3 (by decide), hbyte 4 (by decide)]
    exact hi8_mul_add_lo8 m.seq
  · exact (encodeFrame_body ks c m dir).trans (if_pos hkey)
  · exact (encodeFrame_body ks c m dir).trans (if_neg (by rw [hkey]; decide))
  · rw [hheader]
    exact encodeFrame_csum ks c m dir

/-! ### TX_POP -/

/-- ISSUE is not enabled while the frame of the head of REQQ does not fit in TXQ (R182). -/
theorem issueEnabled_of_no_room {s : State} {d : Descriptor} {q : List Descriptor}
    (hq : s.fcb.reqq = d :: q)
    (hroom : s.params.txqBytes < s.fcb.txq.length + frameLen s.fcb.conf d.payload.length) :
    issueEnabled s = false := by
  rw [Bool.eq_false_iff]
  intro h
  obtain ⟨d', q', hq', _, _, _, hfit⟩ := issueEnabled_cases s h
  obtain ⟨rfl, rfl⟩ : d = d' ∧ q = q' := by simpa [hq] using hq'
  unfold frameLen hdrW at hroom hfit
  omega

theorem popByte_of_cons {b : Byte} {rest : List Byte} {s : State} (hq : s.fcb.txq = b :: rest) :
    popByte s = settle { s with
      fcb := { s.fcb with txq := rest }
      port := { s.port with txTrace := s.port.txTrace ++ [b] } } := by
  rcases popByte_cases s with ⟨hempty, _⟩ | ⟨b', rest', hq', e⟩
  · exact absurd (hempty.symm.trans hq) nofun
  · obtain ⟨rfl, rfl⟩ : b = b' ∧ rest = rest' := by simpa [hq] using hq'
    exact e

theorem popByte_of_nil {s : State} (hq : s.fcb.txq = []) : popByte s = s := by
  rcases popByte_cases s with ⟨_, e⟩ | ⟨b, rest, hq', _⟩
  · exact e
  · exact absurd (hq.symm.trans hq') nofun

/-- Settles O45: none of the three reasons lets SETTLE issue behind the byte. -/
theorem txPopHandsOverTheHead : Obligations.TxPopHandsOverTheHead := by
  refine ⟨fun b rest s hq hheld => ?_, fun s hq => congrArg Host.Outcome.next (popByte_of_nil hq)⟩
  refine congrArg Host.Outcome.next ((popByte_of_cons hq).trans (settle_of_not_enabled ?_))
  rcases hheld with hwait | hnone | ⟨d, q, hd, hroom⟩
  · exact issueEnabled_of_wait hwait
  · exact issueEnabled_of_empty hnone
  · exact issueEnabled_of_no_room hd hroom

/-! ### A frame outside a connection -/

/-- Outside a connection every received byte is counted in CNT_RX_DISCARD, and nothing else happens
(R155). -/
theorem receiveBytes_outside {s : State} (houtside : s.fcb.en = false ∨ s.fcb.link = false)
    (bs : List Byte) :
    receiveBytes bs s = withFcb s { s.fcb with cnt := { s.fcb.cnt with
      rxDiscard := s.fcb.cnt.rxDiscard + BitVec.ofNat 32 bs.length } } := by
  induction bs generalizing s with
  | nil => simp [receiveBytes, withFcb]
  | cons b bs ih =>
    have hdiscard : receiveByte b s = countRxDiscard s :=
      Host.Outcome.next.inj (rxByteOutsideAConnectionIsDiscarded b s houtside)
    have hrest := ih (s := countRxDiscard s) houtside
    rw [receiveBytes_cons, hdiscard, hrest]
    simp [withFcb, countRxDiscard, BitVec.add_assoc, BitVec.ofNat_add, BitVec.add_comm 1#32]

theorem frameBytes_length (ty : Byte) (seq : Half) (body cs : List Byte) :
    (frameBytes ty seq body cs).length = 5 + body.length + cs.length := by
  rw [frameBytes, List.length_append, List.length_append, frameHeader_length]

/-- Settles O50: FRAME from the panel is one RX_BYTE per byte, each discarded. -/
theorem frameOutsideAConnectionIsDiscarded : Obligations.FrameOutsideAConnectionIsDiscarded := by
  intro ty seq body cs s houtside
  rw [← frameBytes_length ty seq body cs]
  exact congrArg Host.Outcome.next (receiveBytes_outside houtside _)

end Sys2Proof.Machine
end

section
/-! The counter block, the bytewise form of CRYPT and the cipher's involution: O7 to O9
(`spec/40_cipher.md` R131 to R134, R136). -/

namespace Sys2Proof.Machine

/-! ### The counter block -/

theorem dirByte_injective {d d' : Dir} (h : dirByte d = dirByte d') : d = d' := by
  cases d <;> cases d'
  case toPanel.toPanel | fromPanel.fromPanel => rfl
  case toPanel.fromPanel | fromPanel.toPanel => exact absurd h (by decide)

/-- A 16-bit field is determined by its two bytes. -/
theorem half_eq_of_bytes {v w : Half} (hhi : hi8 v = hi8 w) (hlo : lo8 v = lo8 w) : v = w := by
  rw [← be16_hi8_lo8 v, hhi, hlo, be16_hi8_lo8]

/-- Settles O7: the layout is the definition's; the direction byte and the two 16-bit fields are
read back from it. -/
theorem counterBlockBytesAndInjective : Obligations.CounterBlockBytesAndInjective := by
  refine ⟨fun dir seq q => ?_, fun d d' seq seq' q q' h => ?_⟩
  · cases dir <;> rfl
  · obtain ⟨hdir, -, hseqHi, hseqLo, -, -, hqHi, hqLo⟩ := Block.mk.inj h
    exact ⟨dirByte_injective hdir, half_eq_of_bytes hseqHi hseqLo, half_eq_of_bytes hqHi hqLo⟩

/-! ### CRYPT, byte by byte -/

theorem blockByte_eq_getD_blockBytes (blk : Block) {r : Nat} (hr : r < 8) :
    blockByte blk r = (blockBytes blk).getD r 0#8 := by
  interval_cases r <;> rfl

/-- The loop of R134 treats each byte by itself, whatever index it starts from. -/
theorem cryptFrom_getElem? (ks : KeyStream) (key : Block) (dir : Dir) (seq : Half) (start i : Nat)
    (data : List Byte) :
    (cryptFrom ks key dir seq start data)[i]?
      = data[i]?.map (· ^^^ keystreamByte ks key dir seq (start + i)) := by
  induction data generalizing start i with
  | nil => rfl
  | cons b bs ih =>
    cases i with
    | zero => rfl
    | succ i => simp [cryptFrom, ih, Nat.add_assoc, Nat.add_comm 1 i]

theorem crypt_getElem? (ks : KeyStream) (key : Block) (dir : Dir) (seq : Half) (i : Nat)
    (data : List Byte) :
    (crypt ks key dir seq data)[i]? = data[i]?.map (· ^^^ keystreamByte ks key dir seq i) := by
  rw [crypt, cryptFrom_getElem?, Nat.zero_add]

/-- Settles O8: `crypt_length`, and `crypt_getElem?` with the keystream byte read from its block. -/
theorem cryptIsBytewiseExclusiveOr : Obligations.CryptIsBytewiseExclusiveOr := by
  refine fun ks key dir seq data => ⟨crypt_length ks key dir seq data, fun i b hb => ?_⟩
  have hr : i % 8 < 8 := Nat.mod_lt i (by decide)
  rw [crypt_getElem?, hb, Option.map_some, keystreamByte, blockByte_eq_getD_blockBytes _ hr]

/-! ### Involution -/

theorem blockXor_blockXor_cancel (blk k : Block) : blockXor (blockXor blk k) k = blk := by
  simp only [blockXor, xor_cancel_right]

/-- CRYPT undoes itself: every byte meets the same keystream byte twice (R136). -/
theorem crypt_crypt (ks : KeyStream) (key : Block) (dir : Dir) (seq : Half) (data : List Byte) :
    crypt ks key dir seq (crypt ks key dir seq data) = data := by
  refine List.ext_getElem? fun i => ?_
  rw [crypt_getElem?, crypt_getElem?]
  cases data[i]? with
  | none => rfl
  | some b => exact congrArg some (xor_cancel_right b _)

/-- Settles O9: ENC_BLOCK and DEC_BLOCK are the same exclusive or with the keystream block. -/
theorem cipherInvolution : Obligations.CipherInvolution :=
  fun ks key cb blk dir seq data =>
    ⟨blockXor_blockXor_cancel blk (ks key cb), blockXor_blockXor_cancel blk (ks key cb),
      crypt_crypt ks key dir seq data⟩

end Sys2Proof.Machine
end

section
/-! PARSE of the bytes of one frame: the round trip of the codec, the changed payload byte and the
bytes behind a frame, O12 to O14, and the two checksums, O10 (`spec/41_frame_codec.md` R150 to R154,
R159, R160). -/

namespace Sys2Proof.Machine

/-! ### The payload on the wire -/

/-- The byte that payload byte `i` meets on its way to the wire: 0 in clear text (R134, R135). -/
def padByte (ks : KeyStream) (c : ConnConfig) (dir : Dir) (seq : Half) (i : Nat) : Byte :=
  if c.keyLen = 8#4 then keystreamByte ks c.key dir seq i else 0#8

theorem cryptPayload_getElem? (ks : KeyStream) (c : ConnConfig) (dir : Dir) (seq : Half) (i : Nat)
    (data : List Byte) :
    (cryptPayload ks c dir seq data)[i]? = data[i]?.map (· ^^^ padByte ks c dir seq i) := by
  unfold cryptPayload padByte
  split
  · exact crypt_getElem? ks c.key dir seq i data
  · simp

/-- Ciphered or in clear text, the payload comes back when it is treated once more (R135, R136). -/
theorem cryptPayload_cryptPayload (ks : KeyStream) (c : ConnConfig) (dir : Dir) (seq : Half)
    (data : List Byte) : cryptPayload ks c dir seq (cryptPayload ks c dir seq data) = data := by
  unfold cryptPayload
  split
  · exact crypt_crypt ks c.key dir seq data
  · rfl

/-- A byte changed on the wire is that byte changed in the payload, and no other (R134, R160). -/
theorem cryptPayload_set (ks : KeyStream) (c : ConnConfig) (dir : Dir) (seq : Half)
    (data : List Byte) (j : Nat) (b : Byte) :
    cryptPayload ks c dir seq (data.set j b)
      = (cryptPayload ks c dir seq data).set j (b ^^^ padByte ks c dir seq j) := by
  refine List.ext_getElem? fun i => ?_
  rw [cryptPayload_getElem?, List.getElem?_set, List.getElem?_set, cryptPayload_getElem?,
    cryptPayload_length]
  split_ifs with hij <;> simp [hij]

/-! ### PARSE of one frame -/

/-- What ENCODE builds is one frame with the payload as it stands on the wire (R91, R153). -/
theorem encodeFrame_eq_frameBytes (ks : KeyStream) (c : ConnConfig) (m : Message) (dir : Dir) :
    encodeFrame ks c m dir = frameBytes m.ty m.seq (cryptPayload ks c dir m.seq m.payload)
      (csum c.csumAlg (frameHeader m.payload.length m.ty m.seq ++ m.payload)) := by
  rw [frameBytes, cryptPayload_length]
  rfl

section
variable (ks : KeyStream) {p : Params} (c : ConnConfig) (dir : Dir) (ty : Byte) (seq : Half)
  {n : Nat} (hmax : p.maxPayload ≤ 65535) (hn : n ≤ p.maxPayload)
include hmax hn

/-- PARSE of a buffer that begins with the header of a frame of legal length (R154). -/
theorem parse_frameHeader (rest : List Byte) :
    parse ks p c (frameHeader n ty seq ++ rest) dir =
      if rest.length < n + csumW c.csumAlg then .needMoreData
      else if csum c.csumAlg (frameHeader n ty seq ++ cryptPayload ks c dir seq (rest.take n))
          = (rest.drop n).take (csumW c.csumAlg) then
        .frame { ty := ty, seq := seq, payload := cryptPayload ks c dir seq (rest.take n) }
          (frameLen c n)
      else .badChecksum (frameLen c n) := by
  have hlen : (BitVec.ofNat 16 n).toNat = n := half_toNat_of_fits (by omega)
  have h := parse_cons ks p c (hi8 (BitVec.ofNat 16 n)) (lo8 (BitVec.ofNat 16 n)) ty (hi8 seq)
    (lo8 seq) rest dir
  rw [be16_hi8_lo8, be16_hi8_lo8, hlen, if_neg (Nat.not_lt.mpr hn)] at h
  exact h

/-- PARSE of exactly one frame: only the checksum decides (R154). -/
theorem parse_frameBytes {body cs : List Byte} (hbody : body.length = n)
    (hcs : cs.length = csumW c.csumAlg) :
    parse ks p c (frameBytes ty seq body cs) dir =
      if csum c.csumAlg (frameHeader n ty seq ++ cryptPayload ks c dir seq body) = cs then
        .frame { ty := ty, seq := seq, payload := cryptPayload ks c dir seq body } (frameLen c n)
      else .badChecksum (frameLen c n) := by
  have hwhole : ¬ (body ++ cs).length < n + csumW c.csumAlg := by
    rw [List.length_append, hbody, hcs]
    exact lt_irrefl _
  rw [frameBytes, List.append_assoc, hbody, parse_frameHeader ks c dir ty seq hmax hn,
    if_neg hwhole, List.take_left' hbody, List.drop_left' hbody, List.take_of_length_le hcs.le]

/-- PARSE of a proper beginning of a frame (R154). -/
theorem parse_take_frameBytes {body : List Byte} (hbody : body.length = n) (cs : List Byte) {k : Nat}
    (hk : k < 5 + n + csumW c.csumAlg) :
    parse ks p c ((frameBytes ty seq body cs).take k) dir = .needMoreData := by
  rcases Nat.lt_or_ge k 5 with hshort | hheader
  · exact parse_needMoreData_of_short _ _ _ _ _ ((List.length_take_le _ _).trans_lt hshort)
  · obtain ⟨j, rfl⟩ := Nat.exists_eq_add_of_le hheader
    have hpart : ((body ++ cs).take j).length < n + csumW c.csumAlg :=
      (List.length_take_le _ _).trans_lt (by omega)
    have htake : (frameBytes ty seq body cs).take (5 + j)
        = frameHeader n ty seq ++ (body ++ cs).take j := by
      rw [frameBytes, List.append_assoc, hbody]
      exact List.take_length_add_append (l₁ := frameHeader n ty seq) j
    rw [htake, parse_frameHeader ks c dir ty seq hmax hn, if_pos hpart]

end

/-- Settles O12: the header is read back, the payload on the wire is treated a second time, and the
checksum then agrees. -/
theorem codecRoundTrip : Obligations.CodecRoundTrip := by
  intro ks p c m dir hmax hlen
  have hwire := cryptPayload_length ks c dir m.seq m.payload
  rw [encodeFrame_length, encodeFrame_eq_frameBytes]
  refine ⟨?_, fun k hk => parse_take_frameBytes ks c dir m.ty m.seq hmax hlen hwire _ hk⟩
  rw [parse_frameBytes ks c dir m.ty m.seq hmax hlen hwire (csum_length _ _),
    cryptPayload_cryptPayload, if_pos rfl]

/-! ### Bytes behind a frame -/

/-- Settles O14: with the header complete PARSE reads `FRAME_LEN` bytes and no more. -/
theorem parseIgnoresLaterBytes : Obligations.ParseIgnoresLaterBytes := by
  intro ks p c buf later dir h
  match buf with
  | [] | [_] | [_, _] | [_, _, _] | [_, _, _, _] => exact absurd rfl h
  | l1 :: l0 :: ty :: s1 :: s0 :: rest =>
    rw [parse_cons] at h
    simp only [List.cons_append, parse_cons]
    generalize (be16 l1 l0).toNat = n at h ⊢
    by_cases hbad : p.maxPayload < n
    · rw [if_pos hbad, if_pos hbad]
    · have hwhole : ¬ rest.length < n + csumW c.csumAlg :=
        fun hshort => h (by rw [if_neg hbad, if_pos hshort])
      have hstill : ¬ (rest ++ later).length < n + csumW c.csumAlg := by
        rw [List.length_append]
        omega
      have hbody : (rest ++ later).take n = rest.take n :=
        List.take_append_of_le_length (by omega)
      have hcsum : ((rest ++ later).drop n).take (csumW c.csumAlg)
          = (rest.drop n).take (csumW c.csumAlg) := by
        rw [List.drop_append_of_le_length (by omega)]
        exact List.take_append_of_le_length (by rw [List.length_drop]; omega)
      rw [if_neg hwhole, if_neg hstill, hbody, hcsum]

/-! ### The two checksums -/

theorem csum_zero (s : List Byte) : csum 0#2 s = [add8 s] := rfl

theorem csum_one (s : List Byte) : csum 1#2 s = [hi8 (crc16 s), lo8 (crc16 s)] := rfl

/-- One inner step of R151, on natural numbers. -/
def crcShiftNat (crc : Nat) : Nat :=
  if 32768 ≤ crc then (crc * 2 % 65536) ^^^ 0x1021 else crc * 2 % 65536

/-- One byte of R151, on natural numbers. -/
def crcByteNat (crc : Nat) (b : Byte) : Nat := crcShiftNat^[8] (crc ^^^ b.toNat * 256)

theorem crcShift_toNat (crc : Half) : (crcShift crc).toNat = crcShiftNat crc.toNat := by
  have hdouble : (crc <<< 1).toNat = crc.toNat * 2 % 65536 := by
    rw [BitVec.toNat_shiftLeft, Nat.shiftLeft_eq, pow_one]
  simp only [crcShift, crcShiftNat, BitVec.msb_eq_decide, decide_eq_true_eq]
  split_ifs with hout
  · exact (BitVec.toNat_xor _ _).trans (congrArg (· ^^^ 0x1021) hdouble)
  · exact hdouble

theorem crcByte_toNat (crc : Half) (b : Byte) :
    (crcByte crc b).toNat = crcByteNat crc.toNat b := by
  have hxor : (crc ^^^ (b ++ 0#8)).toNat = crc.toNat ^^^ b.toNat * 256 := by
    rw [BitVec.toNat_xor, BitVec.toNat_append]
    simp [Nat.shiftLeft_eq]
  have hshifts : (crcShift^[8] (crc ^^^ (b ++ 0#8))).toNat
      = crcShiftNat^[8] (crc ^^^ (b ++ 0#8)).toNat :=
    Function.Semiconj.iterate_right crcShift_toNat 8 _
  exact hshifts.trans (congrArg crcShiftNat^[8] hxor)

/-- The register of R151 is that of its pseudocode. -/
theorem crc16_toNat (s : List Byte) : (crc16 s).toNat = s.foldl crcByteNat 0xFFFF :=
  (List.foldl_hom BitVec.toNat fun crc b => (crcByte_toNat crc b).symm).symm

theorem add8_toNat (s : List Byte) : (add8 s).toNat = (s.map BitVec.toNat).sum % 256 := by
  induction s using List.reverseRecOn with
  | nil => rfl
  | append_singleton s b ih =>
    rw [add8, List.foldl_concat, ← add8, BitVec.toNat_add, ih]
    simp

theorem hi8_eq_ofNat (v : Half) : hi8 v = BitVec.ofNat 8 (v.toNat / 256) := by
  simp [hi8, BitVec.extractLsb', Nat.shiftRight_eq_div_pow]

theorem lo8_eq_ofNat (v : Half) : lo8 v = BitVec.ofNat 8 (v.toNat % 256) := by
  apply BitVec.eq_of_toNat_eq
  simp [lo8]

/-- Settles O10: the registers of both algorithms as natural numbers, and their bytes. -/
theorem checksumsAreSumAndCrc : Obligations.ChecksumsAreSumAndCrc := by
  intro s shift crc
  have hcrc : crc = (crc16 s).toNat := (crc16_toNat s).symm
  refine ⟨?_, ?_⟩
  · rw [csum_zero, ← add8_toNat, BitVec.ofNat_toNat, BitVec.setWidth_eq]
  · rw [csum_one, hcrc, ← hi8_eq_ofNat, ← lo8_eq_ofNat]

/-! ### One byte changed -/

/-- A fold whose step loses nothing of the register loses nothing of the one it began with. -/
theorem foldl_injective {α β : Type} {f : α → β → α} (hreg : ∀ b, Function.Injective (f · b))
    (bs : List β) : Function.Injective (bs.foldl f) := by
  induction bs with
  | nil => exact fun _ _ h => h
  | cons b bs ih => exact fun _ _ h => hreg b (ih h)

/-- A fold whose step loses neither the register nor the byte tells two sequences apart that differ
in one byte: the step at that byte makes a difference, and every later one keeps it (R160). -/
theorem byte_eq_of_foldl_eq {α β : Type} {f : α → β → α} (hreg : ∀ b, Function.Injective (f · b))
    (hbyte : ∀ a, Function.Injective (f a)) {before after : List β} {x y : β} {a : α}
    (h : (before ++ x :: after).foldl f a = (before ++ y :: after).foldl f a) : x = y := by
  rw [List.foldl_append, List.foldl_append] at h
  exact hbyte _ (foldl_injective hreg after h)

/-- From one register of R151, distinct bytes lead to distinct ones. -/
theorem crcByte_injective_byte {crc : Half} {x y : Byte} (h : crcByte crc x = crcByte crc y) :
    x = y := by
  unfold crcByte at h
  have hxor := crcShift_injective (crcShift_injective (crcShift_injective (crcShift_injective
    (crcShift_injective (crcShift_injective (crcShift_injective (crcShift_injective h)))))))
  exact (BitVec.append_left_inj 0#8).mp ((BitVec.xor_right_inj crc).mp hxor)

/-- Either checksum tells two sequences apart that differ in one byte (R160). -/
theorem byte_eq_of_csum_eq {alg : BitVec 2} (halg : alg = 0#2 ∨ alg = 1#2)
    {before after : List Byte} {x y : Byte}
    (h : csum alg (before ++ x :: after) = csum alg (before ++ y :: after)) : x = y := by
  rcases halg with rfl | rfl
  · exact byte_eq_of_foldl_eq add_left_injective add_right_injective (List.head_eq_of_cons_eq h)
  · rw [csum_one, csum_one] at h
    obtain ⟨hhi, hlo⟩ := List.cons_eq_cons.mp h
    have hcrc := half_eq_of_bytes hhi (List.head_eq_of_cons_eq hlo)
    exact byte_eq_of_foldl_eq (f := crcByte) (fun _ _ _ h => crcByte_injective h)
      (fun _ _ _ h => crcByte_injective_byte h) hcrc

/-- A changed payload byte that leaves the checksum as it was is no change (R160). -/
theorem getElem?_of_csum_set_eq {alg : BitVec 2} (halg : alg = 0#2 ∨ alg = 1#2)
    {hdr payload : List Byte} {j : Nat} {b : Byte} (hj : j < payload.length)
    (h : csum alg (hdr ++ payload.set j b) = csum alg (hdr ++ payload)) : payload[j]? = some b := by
  have hsplit (x : Byte) : hdr ++ payload.set j x
      = (hdr ++ payload.take j) ++ x :: payload.drop (j + 1) := by
    rw [List.set_eq_take_append_cons_drop, if_pos hj, List.append_assoc]
  have hsame : csum alg (hdr ++ payload.set j b) = csum alg (hdr ++ payload.set j payload[j]) := by
    rw [h, List.set_getElem_self]
  rw [hsplit, hsplit] at hsame
  rw [List.getElem?_eq_getElem hj, byte_eq_of_csum_eq halg hsame]

/-- A byte changed behind the header is a byte of the payload on the wire (R91). -/
theorem frameBytes_set_body (ty : Byte) (seq : Half) {body : List Byte} (cs : List Byte) {j : Nat}
    (hj : j < body.length) (b : Byte) :
    (frameBytes ty seq body cs).set (5 + j) b = frameBytes ty seq (body.set j b) cs := by
  rw [frameBytes, List.append_assoc, List.set_append_right _ _ (Nat.le_add_right 5 j),
    frameHeader_length, Nat.add_sub_cancel_left, List.set_append_left _ _ hj, frameBytes,
    List.length_set, List.append_assoc]

theorem encodeFrame_getElem?_body (ks : KeyStream) (c : ConnConfig) (m : Message) (dir : Dir)
    {j : Nat} (hj : j < m.payload.length) :
    (encodeFrame ks c m dir)[5 + j]?
      = m.payload[j]?.map (· ^^^ padByte ks c dir m.seq j) := by
  rw [← cryptPayload_getElem?, ← encodeFrame_body, List.getElem?_take_of_lt hj, List.getElem?_drop]

/-- Settles O13: the changed byte is one byte changed in the payload, which neither checksum
misses. -/
theorem payloadCorruptionIsDetected : Obligations.PayloadCorruptionIsDetected := by
  intro ks p c m dir i b hmax hlen halg hi5 hi hne
  obtain ⟨j, rfl⟩ := Nat.exists_eq_add_of_le hi5
  have hj : j < m.payload.length := by omega
  have hwire := cryptPayload_length ks c dir m.seq m.payload
  rw [encodeFrame_getElem?_body ks c m dir hj] at hne
  rw [encodeFrame_length, encodeFrame_eq_frameBytes,
    frameBytes_set_body _ _ _ (hj.trans_eq hwire.symm),
    parse_frameBytes ks c dir m.ty m.seq hmax hlen (List.length_set.trans hwire) (csum_length _ _),
    cryptPayload_set, cryptPayload_cryptPayload]
  refine if_neg fun hsame => hne ?_
  rw [getElem?_of_csum_set_eq halg hj hsame, Option.map_some, xor_cancel_right]

end Sys2Proof.Machine
end

section
/-! RX_BYTE inside a connection, a whole encoded frame received, and the TX_POP that makes room: O39 to
O42, O46 and O51 (`spec/41_frame_codec.md` R155 to R158, R161, `spec/42_correlator.md` R183, R186). -/

namespace Sys2Proof.Machine

/-! ### One byte inside a connection -/

/-- `s` with more bytes at the end of RXBUF, not yet deframed (R155). -/
def buffered (bs : List Byte) (s : State) : State :=
  withFcb s { s.fcb with rxbuf := s.fcb.rxbuf ++ bs }

theorem rxVerdict_buffered (bs : List Byte) (s : State) :
    rxVerdict (buffered bs s)
      = parse Config.ks s.params s.fcb.conf (s.fcb.rxbuf ++ bs) .fromPanel := rfl

theorem buffered_nil (s : State) : buffered [] s = s := by
  simp [buffered, withFcb]

theorem buffered_buffered (bs bs' : List Byte) (s : State) :
    buffered bs' (buffered bs s) = buffered (bs ++ bs') s := by
  simp [buffered, withFcb]

/-- Inside a connection RX_BYTE buffers, deframes and settles (R155). -/
theorem receiveByte_of_linked (b : Byte) {s : State} (he : s.fcb.en = true)
    (hl : s.fcb.link = true) :
    receiveByte b s = settle (deframe (buffered [b] s)) := by
  rcases receiveByte_cases b s with ⟨hout, _⟩ | ⟨_, _, e⟩
  · simp [he, hl] at hout
  · exact e

/-- DEFRAME whose first turn leaves an incomplete frame is that turn (R156). -/
theorem deframe_of_last_turn {s t : State} (h : DeframeTurn s t)
    (hstop : rxVerdict t = .needMoreData) : deframe s = t := by
  obtain ⟨k, hk⟩ := Nat.exists_eq_add_one_of_ne_zero (Nat.ne_zero_of_lt (deframeTurn_shrinks h))
  rw [deframe, hk, deframeLoop_turn h, deframeLoop_stop hstop]

/-- A byte after which PARSE asks for more data is buffered: DEFRAME has no turn, and SETTLE finds
what it left (R40(e)). -/
theorem receiveByte_of_needMoreData {b : Byte} {s : State} (h : BlockInv s) (he : s.fcb.en = true)
    (hl : s.fcb.link = true) (hpart : rxVerdict (buffered [b] s) = .needMoreData) :
    receiveByte b s = buffered [b] s := by
  rw [receiveByte_of_linked b he hl, deframe_of_needMoreData hpart]
  exact settle_of_not_enabled h.settled

/-- Settles O39. -/
theorem rxByteOfAPartialFrameIsBuffered : Obligations.RxByteOfAPartialFrameIsBuffered :=
  fun _ _ h he hl hpart => congrArg Host.Outcome.next (receiveByte_of_needMoreData h he hl hpart)

/-- Settles O40: the turn of DEFRAME that drops the frame empties RXBUF. -/
theorem badChecksumDropsTheFrame : Obligations.BadChecksumDropsTheFrame := by
  intro b s n h he hl hbad
  have hn := parse_extent_of_completed h.incomplete (.inl hbad)
  rw [← rxVerdict_buffered] at hbad
  have hdropped : withFcb s { s.fcb with
        rxbuf := [], cnt := { s.fcb.cnt with csumErr := s.fcb.cnt.csumErr + 1#32 } }
      = dropRx n (countCsumErr (buffered [b] s)) := by
    simp [countCsumErr, dropRx, dropFront, buffered, withFcb, hn]
  have hreceived := receiveByte_of_linked b he hl
  rw [deframe_of_only_turn (.inr (.inl ⟨n, hbad, hdropped⟩)) rfl] at hreceived
  exact congrArg Host.Outcome.next (hreceived.trans (settle_of_not_enabled h.settled))

/-- Two bytes, high one first, as a number (R61). -/
theorem be16_toNat (hi lo : Byte) : (be16 hi lo).toNat = hi.toNat * 256 + lo.toNat := by
  rw [be16, BitVec.toNat_append, ← Nat.shiftLeft_add_eq_or_of_lt lo.isLt, Nat.shiftLeft_eq]

/-- Settles O41: behind the one byte dropped fewer than five are left, so DEFRAME stops. -/
theorem badLengthDropsOneByte : Obligations.BadLengthDropsOneByte := by
  intro l1 l0 b2 b3 b4 s h he hl hbuf hlong
  have hbad : rxVerdict (buffered [b4] s) = .badLength := by
    rw [← be16_toNat] at hlong
    rw [rxVerdict_buffered, hbuf]
    exact (parse_cons ..).trans (if_pos hlong)
  have hdropped : withFcb s { s.fcb with
        rxbuf := [l0, b2, b3, b4]
        cnt := { s.fcb.cnt with malformed := s.fcb.cnt.malformed + 1#32 } }
      = dropRx 1 (countMalformed (buffered [b4] s)) := by
    simp [countMalformed, dropRx, dropFront, buffered, withFcb, hbuf]
  have hreceived := receiveByte_of_linked b4 he hl
  rw [deframe_of_last_turn (.inl ⟨hbad, hdropped⟩) rfl] at hreceived
  exact congrArg Host.Outcome.next (hreceived.trans (settle_of_not_enabled h.settled))

/-- Settles O42: the message answers, and with nothing queued SETTLE issues nothing. -/
theorem matchingResponseCompletesTheExchange :
    Obligations.MatchingResponseCompletesTheExchange := by
  intro b s m n h he hl hparse hw htxq hty hseq hq
  have hm : answers s m = true := (answers_iff s m).mpr ⟨hw, htxq, hty, hseq⟩
  exact congrArg Host.Outcome.next (receiveByte_of_answer h he hl hparse hm hq)

/-! ### A whole frame inside a connection -/

theorem receiveBytes_concat (bs : List Byte) (b : Byte) (s : State) :
    receiveBytes (bs ++ [b]) s = receiveByte b (receiveBytes bs s) :=
  List.foldl_concat _ _ _ _

/-- Bytes after each of which PARSE asks for more data are buffered, and nothing else happens
(R155, R156). -/
theorem receiveBytes_of_needMoreData {bs : List Byte} {s : State} (h : BlockInv s)
    (he : s.fcb.en = true) (hl : s.fcb.link = true)
    (hpart : ∀ k ≤ bs.length, rxVerdict (buffered (bs.take k) s) = .needMoreData) :
    receiveBytes bs s = buffered bs s := by
  induction bs using List.reverseRecOn with
  | nil => exact (buffered_nil s).symm
  | append_singleton bs b ih =>
    have hbefore : receiveBytes bs s = buffered bs s := by
      refine ih fun k hk => ?_
      rw [← List.take_append_of_le_length (l₂ := [b]) hk]
      exact hpart k (by rw [List.length_append]; exact Nat.le_succ_of_le hk)
    have hinv : BlockInv (buffered bs s) := hbefore ▸ h.wireBytes .fromPanel bs
    have hlast : rxVerdict (buffered [b] (buffered bs s)) = .needMoreData := by
      rw [buffered_buffered, ← List.take_length (l := bs ++ [b])]
      exact hpart _ le_rfl
    rw [receiveBytes_concat, hbefore, receiveByte_of_needMoreData hinv he hl hlast,
      buffered_buffered]

/-- A frame received whole at a frame boundary is taken, counted and delivered (R156). -/
theorem receiveBytes_encodeFrame {m : Message} {s : State} (h : BlockInv s)
    (he : s.fcb.en = true) (hl : s.fcb.link = true) (hbuf : s.fcb.rxbuf = [])
    (hlen : m.payload.length ≤ s.params.maxPayload) :
    receiveBytes (encodeFrame Config.ks s.fcb.conf m .fromPanel) s
      = settle (deliver m (frameTaken s)) := by
  obtain ⟨hwhole, hpart⟩ :=
    codecRoundTrip Config.ks s.params s.fcb.conf m .fromPanel h.params.1 hlen
  rcases List.eq_nil_or_concat' (encodeFrame Config.ks s.fcb.conf m .fromPanel)
    with hnil | ⟨front, last, hframe⟩
  · rw [hnil] at hwhole
    exact absurd hwhole nofun
  · rw [hframe] at hwhole hpart ⊢
    have hfront : receiveBytes front s = buffered front s := by
      refine receiveBytes_of_needMoreData h he hl fun k hk => ?_
      rw [rxVerdict_buffered, hbuf, List.nil_append,
        ← List.take_append_of_le_length (l₂ := [last]) hk]
      exact hpart k (by rw [List.length_append]; exact Nat.lt_succ_of_le hk)
    have hinv : BlockInv (buffered front s) := hfront ▸ h.wireBytes .fromPanel front
    have hlast : parse Config.ks s.params s.fcb.conf ((buffered front s).fcb.rxbuf ++ [last])
        .fromPanel = .frame m (frameLen s.fcb.conf m.payload.length) := by
      simpa [buffered, withFcb, hbuf] using hwhole
    rw [receiveBytes_concat, hfront]
    exact receiveByte_of_frame hinv he hl hlast

/-- `s` with the frame in RXBUF taken, counted and reported as UNSOLICITED (R156, R186). -/
def frameReported (m : Message) (s : State) : State :=
  withRecords (withFcb s { s.fcb with
      rxbuf := []
      cnt := { s.fcb.cnt with rxOk := s.fcb.cnt.rxOk + 1#32, unsol := s.fcb.cnt.unsol + 1#32 } })
    [{ status := .unsolicited, tag := 15#4, ty := m.ty, seq := m.seq, payload := m.payload }]

/-- A frame that does not answer is reported, and SETTLE finds the exchange it left (R40(e), R186). -/
theorem settle_deliver_of_not_answers {m : Message} {s : State} (h : BlockInv s)
    (hm : answers s m = false) : settle (deliver m (frameTaken s)) = frameReported m s := by
  rw [deliver_of_not_answers (s := frameTaken s) hm]
  exact settle_of_not_enabled h.settled

/-- A frame that answers ends the exchange, and SETTLE may issue behind it (R184, R186). -/
theorem settle_deliver_of_answers {m : Message} {s : State} (hm : answers s m = true) :
    settle (deliver m (frameTaken s)) = settle (exchangeAnswered m s) := by
  rw [deliver_of_answers (s := frameTaken s) hm]
  rfl

/-- Settles O51: either delivery, and what SETTLE may do behind it touches no receive counter. -/
theorem encodedFrameIsReceivedAndDelivered : Obligations.EncodedFrameIsReceivedAndDelivered := by
  intro m s h he hl hbuf hlen c hdr answer
  have hreceived := receiveBytes_encodeFrame h he hl hbuf hlen
  rw [encodeFrame_eq_frameBytes] at hreceived
  cases hm : answers s m with
  | true =>
    rw [settle_deliver_of_answers hm] at hreceived
    obtain ⟨-, hport, hen, hconf, -, -, hlink, -, -, hrxbuf, n, hcnt⟩ :=
      settle_frame (exchangeAnswered m s)
    refine ⟨_, congrArg Host.Outcome.next hreceived, hrxbuf, ?_, ?_, ?_, hconf, hen, hlink,
      fun _ => ⟨?_, congrArg Ports.cplTrace hport⟩, absurd ((answers_iff s m).mp hm)⟩
    all_goals rw [hcnt]; rfl
  | false =>
    rw [settle_deliver_of_not_answers h hm] at hreceived
    have hno : ¬ answer := fun hyes => by simp [(answers_iff s m).mpr hyes] at hm
    exact ⟨_, congrArg Host.Outcome.next hreceived, rfl, rfl, rfl, rfl, rfl, rfl, rfl,
      fun hyes => absurd hyes hno, fun _ => ⟨rfl, rfl, rfl, rfl, rfl⟩⟩

/-! ### TX_POP -/

/-- The timer an exchange starts with, the other case first (R183). -/
theorem exchangeTimeout_eq (c : ConnConfig) (d : Descriptor) :
    exchangeTimeout c d = if d.timeout = 0#16 then c.reqTimeout else d.timeout :=
  ite_not _ _ _

/-- TX_SEQ wraps exactly from its largest value (R183). -/
theorem seqWrap_eq (wrapped : Bool) (seq : Half) :
    (wrapped || seq + 1#16 == 0#16) = if seq = 0xFFFF#16 then true else wrapped := by
  by_cases hmax : seq = 0xFFFF#16
  · simp [hmax]
  · have hnext : seq + 1#16 ≠ 0#16 := by bv_omega
    simp [hmax, hnext]

/-- Settles O46: behind the byte that has left the frame fits, so SETTLE issues. -/
theorem txPopIssuesWhenTheFrameFits : Obligations.TxPopIssuesWhenTheFrameFits := by
  intro b rest d q s he hl hc htxq hq hfit
  rw [← exchangeTimeout_eq, ← seqWrap_eq]
  refine congrArg Host.Outcome.next ((popByte_of_cons htxq).trans (settle_issue he hl hc hq ?_))
  exact Nat.le_sub_of_add_le' hfit

end Sys2Proof.Machine
end

section
/-! ISSUE in the terms of R183, DECODE_DESC by the layout of a descriptor, what SEND does with each
verdict, and the answer with a request queued behind it: O6, O34 to O37 and O43
(`spec/42_correlator.md` R180 to R186, R194). -/

namespace Sys2Proof.Machine

/-! ### ISSUE -/

/-- The room R182 asks for, without the difference of `free`: a frame is never empty. -/
theorem frameLen_le_free_iff (c : ConnConfig) (n cap used : Nat) :
    frameLen c n ≤ cap - used ↔ used + frameLen c n ≤ cap := by
  unfold frameLen hdrW
  omega

/-- SETTLE inside a connection, with the lock free and room for the frame of the head of REQQ, is
the ISSUE of that head (R183, R184). -/
theorem settle_of_head_fits {s : State} {d : Descriptor} {rest : List Descriptor}
    (he : s.fcb.en = true) (hl : s.fcb.link = true) (hc : s.fcb.cst = .idle)
    (hq : s.fcb.reqq = d :: rest)
    (hfit : s.fcb.txq.length + frameLen s.fcb.conf d.payload.length ≤ s.params.txqBytes) :
    settle s = withFcb s { s.fcb with
      reqq := rest
      txq := s.fcb.txq ++ encodeFrame Config.ks s.fcb.conf
        { ty := d.ty, seq := s.fcb.txSeq, payload := d.payload } .toPanel
      out := { tag := d.tag, ty := d.ty, expTy := d.expTy, seq := s.fcb.txSeq }
      timer := if d.timeout = 0#16 then s.fcb.conf.reqTimeout else d.timeout
      cst := .wait
      txSeq := s.fcb.txSeq + 1#16
      seqWrap := if s.fcb.txSeq = 0xFFFF#16 then true else s.fcb.seqWrap
      cnt := { s.fcb.cnt with tx := s.fcb.cnt.tx + 1#32 } } := by
  rw [settle_issue he hl hc hq ((frameLen_le_free_iff ..).mpr hfit), ← exchangeTimeout_eq,
    ← seqWrap_eq]
  rfl

/-! ### DECODE_DESC -/

/-- Fewer bytes than the fixed part of a descriptor are refused, with the TAG and TYPE there are
(R181). -/
theorem decodeDesc_of_short (p : Params) {bs : List Byte} (h : bs.length < 8) :
    decodeDesc p bs = .bad (if 1 ≤ bs.length then (bs.getD 0 0#8).extractLsb' 0 4 else 15#4)
      (if 2 ≤ bs.length then bs.getD 1 0#8 else 0#8) := by
  match bs, h with
  | [], _ | [_], _ | [_, _], _ | [_, _, _], _ | [_, _, _, _], _ | [_, _, _, _, _], _
    | [_, _, _, _, _, _], _ | [_, _, _, _, _, _, _], _ => rfl
  | _ :: _ :: _ :: _ :: _ :: _ :: _ :: _ :: _, h => simp only [List.length_cons] at h; omega

/-- The five conditions that are left once the eight bytes of the fixed part are there, the last on
the length of the whole descriptor (R100, R181). -/
def LayoutKept (p : Params) (b0 b3 : Byte) (plen : Nat) (payload : List Byte) : Prop :=
  b0.extractLsb' 4 4 = 0#4 ∧ b0.extractLsb' 0 4 ≠ 15#4 ∧ b3 = 0#8 ∧ plen ≤ p.maxPayload
    ∧ payload.length + 8 = 8 + plen

/-- With the fixed part there, DECODE_DESC is good exactly when the other conditions are kept
(R181). -/
theorem decodeDesc_cons_cases (p : Params) (b0 ty expTy b3 t1 t0 p1 p0 : Byte)
    (payload : List Byte) :
    (LayoutKept p b0 b3 (be16 p1 p0).toNat payload
      ∧ decodeDesc p (b0 :: ty :: expTy :: b3 :: t1 :: t0 :: p1 :: p0 :: payload)
        = .good { tag := b0.extractLsb' 0 4, ty := ty, expTy := expTy, timeout := be16 t1 t0
                  payload := payload })
    ∨ (¬ LayoutKept p b0 b3 (be16 p1 p0).toNat payload
      ∧ decodeDesc p (b0 :: ty :: expTy :: b3 :: t1 :: t0 :: p1 :: p0 :: payload)
        = .bad (b0.extractLsb' 0 4) ty) := by
  unfold decodeDesc LayoutKept
  dsimp only
  split_ifs with hrsv htag hb3 hmax hlen
  · exact .inr ⟨fun h => hrsv h.1, rfl⟩
  · exact .inr ⟨fun h => h.2.1 htag, rfl⟩
  · exact .inr ⟨fun ⟨_, _, h, _⟩ => hb3 h, rfl⟩
  · exact .inr ⟨fun ⟨_, _, _, h, _⟩ => hmax.not_ge h, rfl⟩
  · exact .inr ⟨fun ⟨_, _, _, _, h⟩ => hlen (by omega), rfl⟩
  · exact .inl ⟨⟨not_not.mp hrsv, htag, not_not.mp hb3, not_lt.mp hmax, by omega⟩, rfl⟩

/-- Settles O6: seven bytes or fewer are refused, and from eight on the other five conditions
decide. -/
theorem descriptorVerdictByLayout : Obligations.DescriptorVerdictByLayout := by
  intro p bs
  rcases lt_or_ge bs.length 8 with hshort | hlong
  · intro at' plen
    rw [decodeDesc_of_short p hshort]
    refine ⟨⟨nofun, fun h => absurd hshort h.1.not_gt⟩, nofun, fun tag ty h => ?_⟩
    cases h
    exact ⟨rfl, rfl⟩
  · match bs, hlong with
    | b0 :: ty :: expTy :: b3 :: t1 :: t0 :: p1 :: p0 :: payload, hlong =>
      intro at' plen
      have hplen : (be16 p1 p0).toNat = plen := be16_toNat p1 p0
      rcases decodeDesc_cons_cases p b0 ty expTy b3 t1 t0 p1 p0 payload with
        ⟨hkept, e⟩ | ⟨hbroken, e⟩ <;> rw [e]
      · rw [hplen] at hkept
        refine ⟨⟨fun _ => ⟨hlong, hkept⟩, fun _ => ⟨_, rfl⟩⟩, fun d h => ?_, nofun⟩
        cases h
        exact ⟨rfl, rfl, rfl, be16_toNat t1 t0, rfl⟩
      · rw [hplen] at hbroken
        refine ⟨⟨nofun, fun h => absurd h.2 hbroken⟩, nofun, fun tag ty h => ?_⟩
        cases h
        exact ⟨rfl, rfl⟩

/-! ### SEND -/

theorem exec_send_of_ready (bs : List Byte) {s : State} (hr : reqReady s = true) :
    exec (.send bs) s = .next (sendRequest bs s) :=
  congrArg Host.Outcome.next (if_pos hr)

theorem sendRequest_of_bad {bs : List Byte} {tag : BitVec 4} {ty : Byte} {s : State}
    (hd : decodeDesc s.params bs = .bad tag ty) :
    sendRequest bs s = withRecords s
      [{ status := .badRequest, tag := tag, ty := ty, seq := 0#16, payload := [] }] := by
  simp only [sendRequest, hd]
  rfl

theorem sendRequest_of_disabled {bs : List Byte} {d : Descriptor} {s : State}
    (hd : decodeDesc s.params bs = .good d) (he : s.fcb.en = false) :
    sendRequest bs s = withRecords s
      [{ status := .notConfigured, tag := d.tag, ty := d.ty, seq := 0#16, payload := [] }] := by
  simp only [sendRequest, hd, he]
  rfl

/-- `s` with the request at the tail of REQQ, nothing issued yet (R180). -/
def requestQueued (d : Descriptor) (s : State) : State :=
  withFcb s { s.fcb with reqq := s.fcb.reqq ++ [d] }

/-- Inside a connection SEND of a good descriptor queues it and settles (R180). -/
theorem sendRequest_of_linked {bs : List Byte} {d : Descriptor} {s : State}
    (hd : decodeDesc s.params bs = .good d) (he : s.fcb.en = true) (hl : s.fcb.link = true) :
    sendRequest bs s = settle (requestQueued d s) := by
  simp only [sendRequest, hd, he, hl]
  rfl

/-- Settles O34: R180 asks in the order descriptor, EN, LINK. -/
theorem sendRefusals : Obligations.SendRefusals := by
  intro bs s hr
  refine ⟨fun tag ty hd => ?_, fun d hd he => ?_, fun d hd he hl => exec_send_of_unlinked hd he hl⟩
  · rw [exec_send_of_ready bs hr, sendRequest_of_bad hd]
  · rw [exec_send_of_ready bs hr, sendRequest_of_disabled hd he]

/-- Settles O35: behind the new tail the head of REQQ is what it was, or is the request itself, and
none of the three reasons lets SETTLE issue it. -/
theorem sendQueuesBehindTheLock : Obligations.SendQueuesBehindTheLock := by
  intro bs d s hr hd he hl hheld
  have hnone : issueEnabled (requestQueued d s) = false := by
    rcases hheld with hwait | ⟨hempty, hroom⟩ | ⟨d', q, hq, hroom⟩
    · exact issueEnabled_of_wait hwait
    · exact issueEnabled_of_no_room (congrArg (· ++ [d]) hempty) hroom
    · exact issueEnabled_of_no_room (congrArg (· ++ [d]) hq) hroom
  rw [exec_send_of_ready bs hr, sendRequest_of_linked hd he hl, settle_of_not_enabled hnone]
  rfl

/-- Settles O36: the request is the head of REQQ as soon as it is queued, so SETTLE issues it. -/
theorem sendIssuesAtOnce : Obligations.SendIssuesAtOnce := by
  intro bs d s hr hd he hl hc hq hfit
  have hhead : (requestQueued d s).fcb.reqq = [d] := congrArg (· ++ [d]) hq
  rw [exec_send_of_ready bs hr, sendRequest_of_linked hd he hl,
    settle_of_head_fits (s := requestQueued d s) he hl hc hhead hfit]
  simp [requestQueued, withFcb, hq]

/-- Settles O37: SEND is enabled exactly while `req_ready` is high, and else its bytes are held. -/
theorem sendWaitsWhileTheQueueIsFull : Obligations.SendWaitsWhileTheQueueIsFull := fun s =>
  ⟨reqReady_eq_false_iff s, fun _ hr =>
    congrArg Host.Outcome.next (if_neg (Bool.eq_false_iff.mp hr))⟩

/-! ### The answer with a request queued -/

/-- With TXQ empty the frame of every legal descriptor fits (R70). -/
theorem frameLen_le_txqBytes {p : Params} {d : Descriptor} (hp : p.Legal) (hd : d.Legal p)
    (c : ConnConfig) : frameLen c d.payload.length ≤ p.txqBytes := by
  have hcsum := (csumW_bounds c.csumAlg).2
  obtain ⟨_, _, _, hcap⟩ := hp
  obtain ⟨_, hlen⟩ := hd
  unfold frameLen
  omega

/-- Settles O43: the answer leaves the lock free and TXQ empty, so SETTLE issues the head of
REQQ. -/
theorem matchingResponseIssuesTheNextRequest :
    Obligations.MatchingResponseIssuesTheNextRequest := by
  intro b s m n d rest h he hl hparse hw htxq hty hseq hq
  have hm : answers s m = true := (answers_iff s m).mpr ⟨hw, htxq, hty, hseq⟩
  have hfit : s.fcb.txq.length + frameLen s.fcb.conf d.payload.length ≤ s.params.txqBytes := by
    rw [htxq, List.length_nil, Nat.zero_add]
    exact frameLen_le_txqBytes h.params (h.descriptors d (by simp [hq])) _
  have hissue := settle_of_head_fits (s := exchangeAnswered m s) he hl rfl hq hfit
  refine congrArg Host.Outcome.next ?_
  rw [receiveByte_of_frame h he hl hparse, settle_deliver_of_answers hm, hissue]
  simp [exchangeAnswered, withRecords, withFcb, htxq, hw]

end Sys2Proof.Machine
end

section
/-! Disable: O31 (`spec/42_correlator.md` R190, `spec/43_control.md` R225). -/

namespace Sys2Proof.Machine

theorem lostRecords_eq (f : Fcb) :
    lostRecords f = (if f.cst = .wait then
        [{ status := .connectionLost, tag := f.out.tag, ty := f.out.ty, seq := f.out.seq
           payload := [] }] else [])
      ++ f.reqq.map fun d =>
        { status := .connectionLost, tag := d.tag, ty := d.ty, seq := 0#16, payload := [] } := by
  unfold lostRecords
  cases f.cst <;> rfl

/-- A CSR_WRITE of CTRL that clears EN drops the link first, and leaves nothing to issue (R225). -/
theorem exec_csrWrite_disable {v : Word} {s t : State} (he : s.fcb.en = true)
    (hv : v.getLsbD 0 = false) (hdrop : dropLink s = t) :
    exec (.csrWrite 0x00#8 v) s
      = .next (answered (withFcb t { t.fcb with en := false }) .ok 0#32) := by
  subst hdrop
  refine exec_csrWrite_of_respond ?_ (issueEnabled_of_disabled rfl)
  rw [csrWrite_accepted .ctrl v rfl rfl rfl, csrStore, hv]
  rcases ctrlWrite_cases false s with ⟨hen, _⟩ | ⟨hbit, _⟩ | ⟨_, _, e⟩
  · simp [he] at hen
  · cases hbit
  · exact e

/-- Settles O31: with the link up the disable is FAIL_ALL and EN cleared, with it down EN alone. -/
theorem disableFailsEveryPendingRequest : Obligations.DisableFailsEveryPendingRequest := by
  intro v s he hv
  rw [← lostRecords_eq]
  exact ⟨fun hl => exec_csrWrite_disable he hv (if_neg (Bool.eq_false_iff.mp hl)),
    fun hl => exec_csrWrite_disable he hv (if_pos hl)⟩

end Sys2Proof.Machine
end

section
/-! TICK: the countdown, the timeout and what is issued behind it, O47 to O49 and O58
(`spec/42_correlator.md` R184, R187 to R189, R192). -/

namespace Sys2Proof.Machine

/-! ### One TICK -/

/-- A TICK with the lock free is SETTLE alone (R187). -/
theorem exec_tick_of_idle {s : State} (hc : s.fcb.cst = .idle) :
    exec .tick s = .next (settle s) := by
  have hsame : tickTimer s = s := by simp [tickTimer, hc]
  exact congrArg (fun t => Host.Outcome.next (settle t)) hsame

/-- A TICK takes 1 from a TIMER above 1 (R187). -/
theorem exec_tick_of_running {s : State} (hc : s.fcb.cst = .wait) (ht : 1 < s.fcb.timer.toNat) :
    exec .tick s = .next (withFcb s { s.fcb with timer := s.fcb.timer - 1#16 }) := by
  have hpred : timerPred s.fcb.timer = s.fcb.timer - 1#16 := if_neg (by bv_omega)
  have hleft : s.fcb.timer - 1#16 ≠ 0#16 := by bv_omega
  have hcount : tickTimer s = withFcb s { s.fcb with timer := s.fcb.timer - 1#16 } := by
    rcases tickTimer_cases s with ⟨hidle, _⟩ | ⟨_, _, e⟩ | ⟨_, hzero, _⟩
    · simp [hc] at hidle
    · rw [e, hpred]; rfl
    · exact absurd (hpred.symm.trans hzero) hleft
  exact congrArg Host.Outcome.next ((congrArg settle hcount).trans
    (settle_of_not_enabled (issueEnabled_of_wait hc)))

/-- `s` with the exchange timed out, nothing being issued behind it (R188, R189). -/
def timedOut (s : State) : State :=
  withRecords (withFcb s { s.fcb with
      timer := 0#16, cst := .idle, consecTo := consecSucc s.fcb.consecTo
      forceReconnect :=
        if s.fcb.conf.toLimit ≠ 0#8
            ∧ s.fcb.conf.toLimit.toNat ≤ (consecSucc s.fcb.consecTo).toNat then true
        else s.fcb.forceReconnect
      cnt := { s.fcb.cnt with timeout := s.fcb.cnt.timeout + 1#32 } })
    [{ status := .timeout, tag := s.fcb.out.tag, ty := s.fcb.out.ty, seq := s.fcb.out.seq
       payload := [] }]

/-- FORCE_RECONNECT stays, or is set when the count reaches the limit (R189). -/
theorem forceReconnect_eq (c : ConnConfig) (n : Byte) (flag : Bool) :
    (flag || limitReached c n)
      = if c.toLimit ≠ 0#8 ∧ c.toLimit.toNat ≤ n.toNat then true else flag := by
  have hlimit : limitReached c n = decide (c.toLimit ≠ 0#8 ∧ c.toLimit.toNat ≤ n.toNat) := by
    simp [limitReached, bne, beq_eq_decide]
  rw [hlimit]
  split_ifs with h <;> simp [h]

/-- The TICK that brings TIMER to 0 times the exchange out and settles (R187, R188). -/
theorem exec_tick_of_expiring {s : State} (hc : s.fcb.cst = .wait) (ht : s.fcb.timer = 1#16) :
    exec .tick s = .next (settle (timedOut s)) := by
  have hzero : timerPred s.fcb.timer = 0#16 := by rw [ht]; rfl
  have hexpired : tickTimer s = timedOut s := by
    rcases tickTimer_cases s with ⟨hidle, _⟩ | ⟨_, hleft, _⟩ | ⟨_, _, e⟩
    · simp [hc] at hidle
    · exact absurd hzero hleft
    · rw [e, timedOut, ← forceReconnect_eq]
      rfl
  exact congrArg (fun t => Host.Outcome.next (settle t)) hexpired

/-- Settles O47: with the lock free TICK is SETTLE alone, and a TIMER above 1 does not reach 0. -/
theorem tickCountsDown : Obligations.TickCountsDown := fun _ =>
  ⟨fun hc hnone => (exec_tick_of_idle hc).trans
      (congrArg Host.Outcome.next (settle_of_not_enabled hnone)),
    exec_tick_of_running⟩

/-- Settles O48: neither reason lets SETTLE issue behind the timeout. -/
theorem tickTimesOutTheExchange : Obligations.TickTimesOutTheExchange := by
  intro s hc ht hheld
  have hnone : issueEnabled (timedOut s) = false := by
    rcases hheld with hempty | ⟨d, q, hq, hroom⟩
    · exact issueEnabled_of_empty hempty
    · exact issueEnabled_of_no_room hq hroom
  rw [exec_tick_of_expiring hc ht, settle_of_not_enabled hnone]
  rfl

/-- Settles O49: the timeout leaves the lock free and TXQ as it was, so SETTLE issues behind it. -/
theorem timeoutIssuesTheNextRequest : Obligations.TimeoutIssuesTheNextRequest := by
  intro s d rest he hl hc ht hq hfit
  rw [exec_tick_of_expiring hc ht,
    settle_of_head_fits (s := timedOut s) he hl rfl hq hfit]
  simp only [timedOut, withRecords, withFcb, hc]
  rfl

/-! ### TICK after TICK -/

theorem runInstrs_append_singleton {is : List Instr} {i : Instr} {s t : State}
    (h : runInstrs is s = .next t) : runInstrs (is ++ [i]) s = exec i t := by
  induction is generalizing s with
  | nil =>
    cases h
    simp only [List.nil_append, runInstrs]
    cases exec i t <;> rfl
  | cons j is ih =>
    simp only [runInstrs, List.cons_append] at h ⊢
    cases hj : exec j s with
    | next u => exact ih (by simpa [hj] using h)
    | fault e => simp [hj] at h
    | refused r => simp [hj] at h

/-- `s` with `k` taken from TIMER. -/
def countedDown (k : Nat) (s : State) : State :=
  withFcb s { s.fcb with timer := s.fcb.timer - BitVec.ofNat 16 k }

theorem countedDown_timer {k : Nat} {s : State} (hk : k ≤ s.fcb.timer.toNat) :
    (countedDown k s).fcb.timer.toNat = s.fcb.timer.toNat - k := by
  simp only [countedDown, withFcb]
  bv_omega

/-- Fewer TICKs than TIMER count it down and do no more (R187). -/
theorem runInstrs_ticks {s : State} (hc : s.fcb.cst = .wait) {k : Nat}
    (hk : k < s.fcb.timer.toNat) :
    runInstrs (List.replicate k .tick) s = .next (countedDown k s) := by
  induction k with
  | zero => simp [runInstrs, countedDown, withFcb]
  | succ k ih =>
    have hleft : (countedDown k s).fcb.timer.toNat = s.fcb.timer.toNat - k :=
      countedDown_timer (by omega)
    have hnext : s.fcb.timer - BitVec.ofNat 16 k - 1#16
        = s.fcb.timer - BitVec.ofNat 16 (k + 1) := by bv_omega
    rw [List.replicate_succ', runInstrs_append_singleton (ih (by omega)),
      exec_tick_of_running (s := countedDown k s) hc (by omega)]
    exact congrArg (fun t => Host.Outcome.next (withFcb s { s.fcb with timer := t })) hnext

/-- As many TICKs as TIMER time the exchange out and settle (R187, R188). -/
theorem runInstrs_ticks_expire {s : State} (hc : s.fcb.cst = .wait) (ht : s.fcb.timer ≠ 0#16) :
    runInstrs (List.replicate s.fcb.timer.toNat .tick) s = .next (settle (timedOut s)) := by
  obtain ⟨k, hk⟩ : ∃ k, s.fcb.timer.toNat = k + 1 :=
    Nat.exists_eq_add_one_of_ne_zero (by bv_omega)
  have hone : (countedDown k s).fcb.timer = 1#16 :=
    BitVec.eq_of_toNat_eq ((countedDown_timer (by omega)).trans (show _ = 1 by omega))
  rw [hk, List.replicate_succ', runInstrs_append_singleton (runInstrs_ticks hc (by omega)),
    exec_tick_of_expiring (s := countedDown k s) hc hone]
  rfl

/-- Settles O58: the TICKs before the last count down, and behind the last SETTLE issues the head of
REQQ or finds nothing that fits. -/
theorem ticksEndTheExchange : Obligations.TicksEndTheExchange := by
  intro s hc ht fits
  obtain ⟨-, hport, -, -, -, -, -, -, -, -, n, hcnt⟩ := settle_frame (timedOut s)
  refine ⟨fun k hk => runInstrs_ticks hc hk, _, runInstrs_ticks_expire hc ht,
    congrArg Ports.cplTrace hport, congrArg Counters.timeout hcnt, fun hnone => ?_,
    fun d q hq hfits => ?_⟩
  · rcases settle_cases (timedOut s) with ⟨_, e⟩ | ⟨d, q, hq, he, hl, _, hfit, _⟩
    · rw [e]
      exact ⟨rfl, rfl, rfl, rfl, rfl, rfl⟩
    · exact absurd ⟨he, hl, (frameLen_le_free_iff ..).mp hfit⟩ (hnone d q hq)
  · obtain ⟨he, hl, hfit⟩ := hfits
    rw [settle_of_head_fits (s := timedOut s) he hl rfl hq hfit]
    exact ⟨rfl, rfl, rfl, rfl, rfl⟩

end Sys2Proof.Machine
end

section
/-! The CTL commands that only answer, the refused CSR_WRITEs, the enable attempt and the two link
commands: O21, O22, O27, O30, O32 and O33 (`spec/43_control.md` R221, R223 to R229). -/

namespace Sys2Proof.Machine

/-! ### NOP and the reserved words -/

/-- Settles O21: NOP is its answer alone, and SETTLE finds nothing to issue behind it. -/
theorem nopAnswersOk : Obligations.NopAnswersOk :=
  ⟨fun _ => rfl, fun _ hs => congrArg Host.Outcome.next (settle_respond hs .ok 0#32)⟩

/-- The three ways a word is reserved (R229). -/
theorem ctlWordReserved_iff (op rsv : BitVec 4) (n : Byte) :
    ctlWordReserved op rsv n = true ↔
      5 ≤ op.toNat ∨ rsv ≠ 0#4 ∨ ((op = 0#4 ∨ op = 3#4 ∨ op = 4#4) ∧ n ≠ 0#8) := by
  simp only [ctlWordReserved, Bool.or_eq_true, Bool.and_eq_true, bne_iff_ne, beq_iff_eq,
    decide_eq_true_eq, or_assoc]
  exact or_left_comm

/-- Settles O22: whichever way the word is reserved, it decodes to CTL_RESERVED, which is its answer
alone. -/
theorem reservedCommandAnswersBadOp : Obligations.ReservedCommandAnswersBadOp := by
  intro op rsv n v s hreserved hs
  have hword : ctlWordReserved op rsv n = true := (ctlWordReserved_iff op rsv n).mpr hreserved
  exact ⟨congrArg Except.ok (decodeCtl_of_reserved hword v),
    congrArg Host.Outcome.next (settle_respond hs .badOp 0#32)⟩

/-! ### Refused CSR_WRITEs -/

/-- The read-only numbers of R21: STATUS, TIMER to OUT, the counters and LEVELS. -/
theorem csrOf_readOnly {n : Byte}
    (h : n.toNat = 0x01 ∨ (0x08 ≤ n.toNat ∧ n.toNat ≤ 0x0A) ∨ (0x10 ≤ n.toNat ∧ n.toNat ≤ 0x16)
      ∨ n.toNat = 0x18) : ∃ c, csrOf n = some c ∧ csrReadOnly c = true := by
  unfold csrOf
  split
  case h_1 | h_3 | h_4 | h_5 | h_6 | h_7 | h_8 => omega
  case h_20 => grind
  all_goals exact ⟨_, rfl, rfl⟩

/-- The numbers of the configuration registers, CFG to TO_LIMIT, which EN locks (R21, R228). -/
theorem csrOf_configuration {n : Byte} (hlow : 0x02 ≤ n.toNat) (hhigh : n.toNat ≤ 0x06) :
    ∃ c, csrOf n = some c ∧ csrReadOnly c = false ∧ ∀ f, csrLocked f c = f.en := by
  unfold csrOf
  split
  case h_3 | h_4 | h_5 | h_6 | h_7 => exact ⟨_, rfl, rfl, fun _ => rfl⟩
  case h_20 => grind
  all_goals omega

theorem csrWrite_undefined {n : Byte} (v : Word) {s : State} (hn : csrOf n = none) :
    csrWrite n v s = respond .badCsr 0#32 s := by
  simp [csrWrite, hn]

theorem csrWrite_readOnly {n : Byte} {c : Csr} (v : Word) {s : State} (hn : csrOf n = some c)
    (hro : csrReadOnly c = true) : csrWrite n v s = respond .readOnly 0#32 s := by
  simp [csrWrite, hn, hro]

theorem csrWrite_locked {n : Byte} {c : Csr} (v : Word) {s : State} (hn : csrOf n = some c)
    (hro : csrReadOnly c = false) (hlk : csrLocked s.fcb c = true) :
    csrWrite n v s = respond .locked 0#32 s := by
  simp [csrWrite, hn, hro, hlk]

/-- Settles O27, by the range the number is in; a refused write is its answer alone. -/
theorem csrWriteRefusals : Obligations.CsrWriteRefusals := by
  intro n v s hs
  refine ⟨fun hundef => ?_, fun hrange => ?_, fun hlow hhigh he => ?_, fun hseq hl => ?_⟩
  · exact exec_csrWrite_of_respond (csrWrite_undefined v (csrOf_eq_none hundef)) hs
  · obtain ⟨c, hn, hro⟩ := csrOf_readOnly hrange
    exact exec_csrWrite_of_respond (csrWrite_readOnly v hn hro) hs
  · obtain ⟨c, hn, hro, hlk⟩ := csrOf_configuration hlow hhigh
    exact exec_csrWrite_of_respond (csrWrite_locked v hn hro ((hlk s.fcb).trans he)) hs
  · have hn : csrOf n = some .txSeq := (csrOf_eq_txSeq_iff n).mpr (BitVec.eq_of_toNat_eq hseq)
    exact exec_csrWrite_of_respond (csrWrite_locked v hn rfl hl) hs

/-! ### The enable attempt -/

/-- CTRL is neither read-only nor locked, so its write is always made (R223, R228). -/
theorem csrWrite_ctrl (v : Word) (s : State) :
    csrWrite 0x00#8 v s = ctrlWrite (v.getLsbD 0) s :=
  csrWrite_accepted .ctrl v rfl rfl rfl

/-- A CTRL write of 1 while `EN = 0` is the enable attempt (R224). -/
theorem csrWrite_enable {v : Word} {s : State} (he : s.fcb.en = false) (hv : v.getLsbD 0 = true) :
    csrWrite 0x00#8 v s = enable s := by
  rw [csrWrite_ctrl, hv]
  simp [ctrlWrite, he]

theorem exec_csrWrite_enable_of_legal {v : Word} {s : State} (he : s.fcb.en = false)
    (hl : s.fcb.link = false) (hv : v.getLsbD 0 = true) (hlegal : s.fcb.conf.Legal) :
    exec (.csrWrite 0x00#8 v) s = .next (answered
      (withFcb s { s.fcb with en := true, cfgErr := false, cfgErrCause := 0#4 }) .ok 0#32) := by
  have hcause : configCause s.fcb.conf = 0#4 := (configCause_eq_zero_iff _).mpr hlegal
  exact exec_csrWrite_of_respond ((csrWrite_enable he hv).trans (if_pos hcause))
    (issueEnabled_of_unlinked hl)

/-- An enable attempt that finds a cause records it, `EN` staying 0 (R108, R224). -/
theorem exec_csrWrite_enable_of_cause {v : Word} {s : State} {cause : BitVec 4}
    (he : s.fcb.en = false) (hv : v.getLsbD 0 = true) (hcause : configCause s.fcb.conf = cause)
    (hfound : cause ≠ 0#4) :
    exec (.csrWrite 0x00#8 v) s = .next (answered
      (withFcb s { s.fcb with cfgErr := true, cfgErrCause := cause }) .configError 0#32) := by
  subst hcause
  exact exec_csrWrite_of_respond ((csrWrite_enable he hv).trans (if_neg hfound))
    (issueEnabled_of_disabled he)

/-- A CTRL write that leaves `EN` as it is has no effect but its answer (R22, R224, R225). -/
theorem ctrlWrite_of_same {bit : Bool} {s : State} (h : bit = s.fcb.en) :
    ctrlWrite bit s = respond .ok 0#32 s := by
  rcases ctrlWrite_cases bit s with ⟨_, e⟩ | ⟨hbit, he, _⟩ | ⟨hbit, he, _⟩
  · exact e
  · simp [hbit, he] at h
  · simp [hbit, he] at h

/-- Settles O30: `configCause` asks for the causes in the order of R108. -/
theorem enableChecksTheConfiguration : Obligations.EnableChecksTheConfiguration := by
  refine ⟨fun v s he hl hv => ?_, fun v s hsame hs => ?_⟩
  · have refused {cause : BitVec 4} := exec_csrWrite_enable_of_cause (cause := cause) he hv
    refine ⟨exec_csrWrite_enable_of_legal he hl hv, fun hlen => refused ?_ (by decide),
      fun ⟨hlen, hgen⟩ => refused ?_ (by decide),
      fun ⟨hlen, hgen, hmatch⟩ => refused ?_ (by decide),
      fun ⟨hlen, hgen, hmatch, hcsum⟩ => refused ?_ (by decide),
      fun ⟨hlen, hgen, hmatch, hcsum, htimeout⟩ => refused ?_ (by decide)⟩
    · rw [configCause, if_pos hlen]
    · rw [configCause, if_neg hlen, if_pos hgen]
    · rw [configCause, if_neg hlen, if_neg hgen, if_pos hmatch]
    · rw [configCause, if_neg hlen, if_neg hgen, if_neg hmatch, if_pos hcsum]
    · rw [configCause, if_neg hlen, if_neg hgen, if_neg hmatch, if_neg hcsum, if_pos htimeout]
  · exact exec_csrWrite_of_respond ((csrWrite_ctrl v s).trans (ctrlWrite_of_same hsame)) hs

/-! ### LINK_UP and LINK_DOWN -/

/-- A LINK_UP that leaves nothing to issue is its effect and its answer (R184, R226). -/
theorem exec_linkUp_of_respond {s u : State} {status : CtlStatus}
    (hup : linkUp s = respond status 0#32 u) (hu : issueEnabled u = false) :
    exec .linkUp s = .next (answered u status 0#32) :=
  congrArg Host.Outcome.next ((congrArg settle hup).trans (settle_respond hu _ _))

/-- A LINK_DOWN that leaves nothing to issue is its effect and its answer (R184, R227). -/
theorem exec_linkDown_of_respond {s u : State} {status : CtlStatus}
    (hdown : linkDown s = respond status 0#32 u) (hu : issueEnabled u = false) :
    exec .linkDown s = .next (answered u status 0#32) :=
  congrArg Host.Outcome.next ((congrArg settle hdown).trans (settle_respond hu _ _))

/-- Settles O32: the three branches of R226, none of which leaves anything to issue. -/
theorem linkUpRaisesTheLink : Obligations.LinkUpRaisesTheLink := by
  refine ⟨fun _ => rfl, fun s => ⟨fun he => ?_, fun he hl hs => ?_, fun he hl hq => ?_⟩⟩
  · have hup : linkUp s = respond .notConfigured 0#32 s := if_pos he
    exact exec_linkUp_of_respond hup (issueEnabled_of_disabled he)
  · have hup : linkUp s = respond .badState 0#32 s := by simp [linkUp, he, hl]
    exact exec_linkUp_of_respond hup hs
  · have hup : linkUp s = respond .ok 0#32 (withFcb s { s.fcb with link := true }) := by
      simp [linkUp, withFcb, he, hl]
    exact exec_linkUp_of_respond hup (issueEnabled_of_empty hq)

/-- Settles O33: with the link up the command is FAIL_ALL, with it down its answer alone. -/
theorem linkDownFailsEveryPendingRequest : Obligations.LinkDownFailsEveryPendingRequest := by
  refine ⟨fun _ => rfl, fun s => ⟨fun he => ?_, fun he hl => ?_, fun he hl => ?_⟩⟩
  · have hdown : linkDown s = respond .notConfigured 0#32 s := if_pos he
    exact exec_linkDown_of_respond hdown (issueEnabled_of_disabled he)
  · have hdown : linkDown s = respond .ok 0#32 s := by simp [linkDown, dropLink, he, hl]
    exact exec_linkDown_of_respond hdown (issueEnabled_of_unlinked hl)
  · rw [← lostRecords_eq]
    exact exec_linkDown_of_linked he hl

end Sys2Proof.Machine
end

section
/-! Every operation and every step has a result, and none touches the parameters or what still waits
outside the ports: O18 (`spec/60_exceptions.md` R250). -/

namespace Sys2Proof.Machine

/-- `s` and `t` have the same parameters and the same stimuli still to come: all that an operation
cannot reach (R5). -/
structure SameSurroundings (s t : State) : Prop where
  params : t.params = s.params
  inbox : t.port.inbox = s.port.inbox

theorem SameSurroundings.refl (s : State) : SameSurroundings s s := ⟨rfl, rfl⟩

theorem SameSurroundings.trans {s t u : State} (h : SameSurroundings s t)
    (k : SameSurroundings t u) : SameSurroundings s u :=
  ⟨k.params.trans h.params, k.inbox.trans h.inbox⟩

/-! ### The internal steps -/

theorem sameSurroundings_settle (s : State) : SameSurroundings s (settle s) := by
  obtain ⟨hparams, hport, _⟩ := settle_frame s
  exact ⟨hparams, by rw [hport]⟩

theorem SameSurroundings.settle {s t : State} (h : SameSurroundings s t) :
    SameSurroundings s (settle t) :=
  h.trans (sameSurroundings_settle t)

theorem sameSurroundings_deframe (s : State) : SameSurroundings s (deframe s) := by
  obtain ⟨rs, hport⟩ := (deframe_keeps s).port
  exact ⟨(deframe_keeps s).params, by rw [hport, emitAll_inbox]⟩

theorem sameSurroundings_tickTimer (s : State) : SameSurroundings s (tickTimer s) := by
  rcases tickTimer_cases s with ⟨_, e⟩ | ⟨_, _, e⟩ | ⟨_, _, e⟩ <;> rw [e]
  · exact .refl s
  · exact ⟨rfl, rfl⟩
  · exact ⟨rfl, rfl⟩

theorem sameSurroundings_dropLink (s : State) : SameSurroundings s (dropLink s) := by
  unfold dropLink
  split
  · exact ⟨failAll_params s, failAll_inbox s⟩
  · exact .refl s

/-! ### The port operations -/

theorem sameSurroundings_receiveByte (b : Byte) (s : State) :
    SameSurroundings s (receiveByte b s) := by
  rcases receiveByte_cases b s with ⟨_, e⟩ | ⟨_, _, e⟩ <;> rw [e]
  · exact ⟨rfl, rfl⟩
  · have hbuffered : SameSurroundings s
        { s with fcb := { s.fcb with rxbuf := s.fcb.rxbuf ++ [b] } } := ⟨rfl, rfl⟩
    exact (hbuffered.trans (sameSurroundings_deframe _)).settle

theorem sameSurroundings_popByte (s : State) : SameSurroundings s (popByte s) := by
  rcases popByte_cases s with ⟨_, e⟩ | ⟨b, rest, _, e⟩ <;> rw [e]
  · exact .refl s
  · exact .settle ⟨rfl, rfl⟩

theorem sameSurroundings_wireBytes (dir : Dir) (bs : List Byte) (s : State) :
    SameSurroundings s (wireBytes dir bs s) :=
  wireBytes_induction SameSurroundings .refl (fun _ _ _ => .trans) sameSurroundings_receiveByte
    sameSurroundings_popByte dir bs s

theorem sameSurroundings_sendRequest (bs : List Byte) (s : State) :
    SameSurroundings s (sendRequest bs s) := by
  rcases sendRequest_cases bs s with ⟨r, e⟩ | ⟨d, _, _, _, e⟩ <;> rw [e]
  · exact ⟨emit_params r s, emit_inbox r s⟩
  · exact .settle ⟨rfl, rfl⟩

theorem sameSurroundings_takeRecord (r : CplRecord) (s : State) :
    SameSurroundings s (takeRecord r s) := by
  unfold takeRecord
  split <;> exact ⟨rfl, rfl⟩

theorem sameSurroundings_streamByte (taken : Bool) (s : State) :
    SameSurroundings s (streamByte taken s) := by
  obtain ⟨hparams, _, hinbox, _⟩ := streamByte_keeps taken s
  exact ⟨hparams, hinbox⟩

/-! ### The commands: an answer goes to the response trace alone (R99) -/

theorem sameSurroundings_csrRead (n : Byte) (s : State) : SameSurroundings s (csrRead n s) := by
  unfold csrRead
  split <;> exact ⟨rfl, rfl⟩

theorem sameSurroundings_enable (s : State) : SameSurroundings s (enable s) := by
  unfold enable
  dsimp only
  split <;> exact ⟨rfl, rfl⟩

theorem sameSurroundings_disable (s : State) : SameSurroundings s (disable s) := by
  obtain ⟨hparams, hinbox⟩ := sameSurroundings_dropLink s
  exact ⟨hparams, hinbox⟩

theorem sameSurroundings_csrWrite (n : Byte) (v : Word) (s : State) :
    SameSurroundings s (csrWrite n v s) := by
  rcases csrWrite_cases n v s with ⟨_, e⟩ | ⟨_, _, e⟩ | ⟨_, _, _, e⟩ | ⟨_, _, _, e⟩ | ⟨_, _, _, e⟩
    <;> rw [e]
  · exact ⟨rfl, rfl⟩
  · exact ⟨rfl, rfl⟩
  · exact ⟨rfl, rfl⟩
  · exact sameSurroundings_enable s
  · exact sameSurroundings_disable s

theorem sameSurroundings_linkUp (s : State) : SameSurroundings s (linkUp s) := by
  unfold linkUp
  split_ifs <;> exact ⟨rfl, rfl⟩

theorem sameSurroundings_linkDown (s : State) : SameSurroundings s (linkDown s) := by
  unfold linkDown
  split
  · exact ⟨rfl, rfl⟩
  · obtain ⟨hparams, hinbox⟩ := sameSurroundings_dropLink s
    exact ⟨hparams, hinbox⟩

/-! ### Operations and steps -/

/-- No operation faults and none is refused (R250). -/
theorem exec_total (i : Instr) (s : State) : ∃ t, exec i s = .next t := by
  cases i <;> exact ⟨_, rfl⟩

/-- No operation reaches the parameters or the inbox, not even RESET. -/
theorem sameSurroundings_exec {s t : State} {i : Instr} (h : exec i s = .next t) :
    SameSurroundings s t := by
  cases i with cases h
  | nop | ctlReserved _ _ _ => exact .settle ⟨rfl, rfl⟩
  | csrRead n => exact (sameSurroundings_csrRead n s).settle
  | csrWrite n v => exact (sameSurroundings_csrWrite n v s).settle
  | linkUp => exact (sameSurroundings_linkUp s).settle
  | linkDown => exact (sameSurroundings_linkDown s).settle
  | send bs =>
    split
    · exact sameSurroundings_sendRequest bs s
    · exact ⟨rfl, rfl⟩
  | cplOk | cplTimeout | cplConnectionLost | cplNotConnected | cplNotConfigured | cplBadRequest
    | cplUnsolicited => exact sameSurroundings_takeRecord _ s
  | frame dir ty seq body csum => exact sameSurroundings_wireBytes dir _ s
  | rxByte b => exact sameSurroundings_receiveByte b s
  | txPop => exact sameSurroundings_popByte s
  | tick => exact (sameSurroundings_tickTimer s).settle
  | reset => exact ⟨rfl, rfl⟩

theorem sameSurroundings_runUnlisted (e : PortEvent) (s : State) :
    SameSurroundings s (runUnlisted e s) := by
  cases e with
  | wire dir bytes => exact sameSurroundings_wireBytes dir bytes s
  | cplByte taken => exact sameSurroundings_streamByte taken s
  | ctl _ _ | req _ | reqSample | cpl _ | rx _ | txReady _ | tick _ | rst _ => exact .refl s

theorem sampleReq_inbox (s : State) : (sampleReq s).2.port.inbox = s.port.inbox := by
  obtain ⟨_, _, hinbox, _⟩ := sampleReq_keeps s
  exact hinbox

/-- Whatever stands first in the inbox, `fetch` takes it and nothing behind it. -/
theorem fetch_inbox (s : State) : (fetch s).2.port.inbox = s.port.inbox.tail := by
  cases hi : s.port.inbox with
  | nil => rw [fetch_of_nil hi, sampleReq_inbox, hi, List.tail_nil]
  | cons e rest =>
    cases e with
    | req item => rw [fetch_of_req hi, sampleReq_inbox, List.tail_cons]
    | reqSample => rw [fetch_of_reqSample hi, sampleReq_inbox, List.tail_cons]
    | ctl _ _ | cpl _ | cplByte _ | wire _ _ | rx _ | txReady _ | tick _ | rst _ =>
      rw [fetch_of_other_port hi nofun nofun, List.tail_cons]

/-- Every step has a result (R250), with what `fetch` left of the surroundings. -/
theorem step_total (s : State) : ∃ t, step s = .next t ∧ SameSurroundings (fetch s).2 t := by
  rcases hf : fetch s with ⟨_ | e, u⟩
  · exact ⟨u, step_of_fetch_none hf, .refl u⟩
  · cases hd : decode e with
    | ok i =>
      obtain ⟨t, ht⟩ := exec_total i u
      exact ⟨t, (step_of_fetch_ok hf hd).trans ht, sameSurroundings_exec ht⟩
    | error err => exact ⟨_, step_of_fetch_error hf hd, sameSurroundings_runUnlisted e u⟩

/-- Settles O18: an operation has a result by the arms of `exec`, and a step takes the first stimulus
and no more before it runs one. -/
theorem everyInstructionAnswersNext : Obligations.EveryInstructionAnswersNext := by
  refine ⟨fun i s => ?_, fun s => ?_⟩
  · obtain ⟨t, ht⟩ := exec_total i s
    obtain ⟨hparams, hinbox⟩ := sameSurroundings_exec ht
    exact ⟨t, ht, hparams, hinbox⟩
  · obtain ⟨hfetched, _⟩ := fetch_keeps s
    obtain ⟨t, ht, hparams, hinbox⟩ := step_total s
    exact ⟨t, ht, hparams.trans hfetched, hinbox.trans (fetch_inbox s)⟩

end Sys2Proof.Machine
end
